-- ==== Sys2Proof/Word.lean ====
section
/-! DEFINITION. The word types of the block (00_scope.md R10, R14; 30_encoding.md R100). -/

namespace Sys2Proof

/-- One byte of the framed and of the destuffed stream (44_byte_framer.md R232). -/
abbrev Byte := BitVec 8

/-- A register and a bus word: 32 bits (00_scope.md R10). -/
abbrev Word := BitVec 32

/-- The encoding of a binary64 value: sign bit 63, exponent 62:52, fraction 51:0 (00_scope.md R14). -/
abbrev F64 := BitVec 64

/-- A bus transaction: RW in bit 38, WOFF in bits 37:32, DATA in bits 31:0 (30_encoding.md R100). -/
abbrev BusWord := BitVec 39

/-- `f64(hi, lo)` of 00_scope.md R14. -/
def f64 (hi lo : Word) : F64 := hi ++ lo

/-- Bits 31:0 of a binary64 encoding, the word a `_LO` register shows (20_memory.md R82). -/
def lowWord (v : F64) : Word := v.extractLsb' 0 32

/-- Bits 63:32 of a binary64 encoding, the word a `_HI` register shows (20_memory.md R82). -/
def highWord (v : F64) : Word := v.extractLsb' 32 32

end Sys2Proof
end

