-- ==== Sys2Proof/Config.lean ====
section
/-! DEFINITION. What an implementation or the surroundings fix (00_scope.md R8), and the values the spec
leaves open (93_implementation_defined.md section 2), as constants that nothing in Lean can evaluate.
The four sizes and the choice of COEFF_FN are plain data in `Machine.Params`, so that every value of them is
covered by a statement over all states; their defaults and legal ranges stand here. -/

namespace Sys2Proof

/-- The two agents that take steps (20_memory.md R70). -/
inductive Agent where
  /-- the host, with the platform it sits on: bus accesses and the reset input -/
  | host
  /-- the engine: the steps of 40_host_ops.md R150 -/
  | engine
deriving DecidableEq, Repr, Inhabited

namespace Config

/-- FREE VALUE (log 3). The encoding drawn for the NaN result of the `n`-th binary64 operation of one
evaluation of `estimate` on the window `w` at the tone `f` with the sample rate `fs` (00_scope.md R14, D55:
"each NaN result is a draw among the NaN encodings"). `Machine.asNaN` makes a NaN of any value of it. -/
opaque nanDraw (w : List F64) (f fs n : Nat) : F64

/-- FREE VALUE (log 4). The total functions an instance may have in place of the default COEFF_FN, numbered
(00_scope.md R8, 41_tone_energy.md R172). -/
opaque customCoeff (which k L : Nat) : F64

/-- PARAMETER (log 7). BASE, the bus address of the register block, chosen by the platform (20_memory.md R74). -/
opaque base : Nat

/-- FREE VALUE (log 7). The read data that the platform adapter gives with the bus error by which it answers a
sub-word or misaligned read at byte offset `off` (20_memory.md R75 names the error, not the data). -/
opaque adapterData (off : Nat) : Word

/-- FREE VALUE (log 2). How many turns of the host fall before the engine's `k`-th turn, after its turn before
that: a number without bound, as 20_memory.md R71 says, but a number, so that the engine always moves again
(93_implementation_defined.md section 2 item 6). -/
opaque hostGap (k : Nat) : Nat

/-- Default WIN_MAX (00_scope.md R8). -/
def defaultWinMax : Nat := 4096
/-- Default BITBUF_DEPTH (00_scope.md R8). -/
def defaultBitbufDepth : Nat := 65536
/-- Default SFIFO_DEPTH (00_scope.md R8). -/
def defaultSfifoDepth : Nat := 256
/-- Default OFIFO_DEPTH (00_scope.md R8). -/
def defaultOfifoDepth : Nat := 256
/-- MARKER_MAX, fixed (00_scope.md R8). -/
def markerMax : Nat := 32

end Config
end Sys2Proof
end

