-- ==== Sys2Proof/Syntax.lean ====
section
/-! DEFINITION. The instructions of the block: the 133 rows of spec/opcode_table.json, each a bus transaction
(30_encoding.md R101, R109). A write carries its DATA. A read ignores DATA (R100), so it carries nothing. -/

namespace Sys2Proof

/-- One constructor per row of the opcode table, in the table's order; the comment is the row's own name. -/
inductive Instr where
  /-- `wr ID (refused)`, R76 -/
  | wrIdRefused (data : Word)
  /-- `rd ID`, R146 -/
  | rdId
  /-- `wr VERSION (refused)`, R76 -/
  | wrVersionRefused (data : Word)
  /-- `rd VERSION`, R146 -/
  | rdVersion
  /-- `wr PARAM_WIN (refused)`, R76 -/
  | wrParamWinRefused (data : Word)
  /-- `rd PARAM_WIN`, R146 -/
  | rdParamWin
  /-- `wr PARAM_BITBUF (refused)`, R76 -/
  | wrParamBitbufRefused (data : Word)
  /-- `rd PARAM_BITBUF`, R146 -/
  | rdParamBitbuf
  /-- `wr PARAM_FIFO (refused)`, R76 -/
  | wrParamFifoRefused (data : Word)
  /-- `rd PARAM_FIFO`, R146 -/
  | rdParamFifo
  /-- `wr CTRL`, R144 -/
  | wrCtrl (data : Word)
  /-- `rd CTRL`, R146 -/
  | rdCtrl
  /-- `cmd NOP`, R136 -/
  | cmdNop
  /-- `cmd START`, R131 -/
  | cmdStart
  /-- `cmd END`, R133 -/
  | cmdEnd
  /-- `cmd ABORT`, R134 -/
  | cmdAbort
  /-- `cmd SOFT_RESET`, R135 -/
  | cmdSoftReset
  /-- `cmd RESERVED`, R130 -/
  | cmdReserved (data : Word)
  /-- `rd CMD (returns 0)`, R78 -/
  | rdCmdReturns0
  /-- `wr STATUS (refused)`, R76 -/
  | wrStatusRefused (data : Word)
  /-- `rd STATUS`, R148 -/
  | rdStatus
  /-- `wr EVENTS`, R143 -/
  | wrEvents (data : Word)
  /-- `rd EVENTS`, R146 -/
  | rdEvents
  /-- `wr INT_EN`, R145 -/
  | wrIntEn (data : Word)
  /-- `rd INT_EN`, R146 -/
  | rdIntEn
  /-- `wr SAMPLE_RATE`, R144 -/
  | wrSampleRate (data : Word)
  /-- `rd SAMPLE_RATE`, R146 -/
  | rdSampleRate
  /-- `wr BAUD`, R144 -/
  | wrBaud (data : Word)
  /-- `rd BAUD`, R146 -/
  | rdBaud
  /-- `wr MARK_FREQ`, R144 -/
  | wrMarkFreq (data : Word)
  /-- `rd MARK_FREQ`, R146 -/
  | rdMarkFreq
  /-- `wr SPACE_FREQ`, R144 -/
  | wrSpaceFreq (data : Word)
  /-- `rd SPACE_FREQ`, R146 -/
  | rdSpaceFreq
  /-- `wr BIAS_LO`, R144 -/
  | wrBiasLo (data : Word)
  /-- `rd BIAS_LO`, R146 -/
  | rdBiasLo
  /-- `wr BIAS_HI`, R144 -/
  | wrBiasHi (data : Word)
  /-- `rd BIAS_HI`, R146 -/
  | rdBiasHi
  /-- `wr NOISE_FLOOR_LO`, R144 -/
  | wrNoiseFloorLo (data : Word)
  /-- `rd NOISE_FLOOR_LO`, R146 -/
  | rdNoiseFloorLo
  /-- `wr NOISE_FLOOR_HI`, R144 -/
  | wrNoiseFloorHi (data : Word)
  /-- `rd NOISE_FLOOR_HI`, R146 -/
  | rdNoiseFloorHi
  /-- `wr AMP_FLOOR_LO`, R144 -/
  | wrAmpFloorLo (data : Word)
  /-- `rd AMP_FLOOR_LO`, R146 -/
  | rdAmpFloorLo
  /-- `wr AMP_FLOOR_HI`, R144 -/
  | wrAmpFloorHi (data : Word)
  /-- `rd AMP_FLOOR_HI`, R146 -/
  | rdAmpFloorHi
  /-- `wr HEAD_PAT`, R144 -/
  | wrHeadPat (data : Word)
  /-- `rd HEAD_PAT`, R146 -/
  | rdHeadPat
  /-- `wr TAIL_PAT`, R144 -/
  | wrTailPat (data : Word)
  /-- `rd TAIL_PAT`, R146 -/
  | rdTailPat
  /-- `wr SYNC_CFG`, R144 -/
  | wrSyncCfg (data : Word)
  /-- `rd SYNC_CFG`, R146 -/
  | rdSyncCfg
  /-- `wr HEAD_WIN`, R144 -/
  | wrHeadWin (data : Word)
  /-- `rd HEAD_WIN`, R146 -/
  | rdHeadWin
  /-- `wr TAIL_WIN`, R144 -/
  | wrTailWin (data : Word)
  /-- `rd TAIL_WIN`, R146 -/
  | rdTailWin
  /-- `wr ESCAPE`, R144 -/
  | wrEscape (data : Word)
  /-- `rd ESCAPE`, R146 -/
  | rdEscape
  /-- `wr SAMPLE_LO`, R141 -/
  | wrSampleLo (data : Word)
  /-- `rd SAMPLE_LO (returns 0)`, R78 -/
  | rdSampleLoReturns0
  /-- `wr SAMPLE_HI`, R140 -/
  | wrSampleHi (data : Word)
  /-- `rd SAMPLE_HI (returns 0)`, R78 -/
  | rdSampleHiReturns0
  /-- `wr SFIFO_LEVEL (refused)`, R76 -/
  | wrSfifoLevelRefused (data : Word)
  /-- `rd SFIFO_LEVEL`, R146 -/
  | rdSfifoLevel
  /-- `wr OUT_DATA (refused)`, R76 -/
  | wrOutDataRefused (data : Word)
  /-- `rd OUT_DATA`, R142 -/
  | rdOutData
  /-- `wr OUT_LEVEL (refused)`, R76 -/
  | wrOutLevelRefused (data : Word)
  /-- `rd OUT_LEVEL`, R146 -/
  | rdOutLevel
  /-- `wr SAMPLE_COUNT (refused)`, R76 -/
  | wrSampleCountRefused (data : Word)
  /-- `rd SAMPLE_COUNT`, R146 -/
  | rdSampleCount
  /-- `wr SYMBOL_COUNT (refused)`, R76 -/
  | wrSymbolCountRefused (data : Word)
  /-- `rd SYMBOL_COUNT`, R146 -/
  | rdSymbolCount
  /-- `wr DROP_COUNT (refused)`, R76 -/
  | wrDropCountRefused (data : Word)
  /-- `rd DROP_COUNT`, R146 -/
  | rdDropCount
  /-- `wr UNK_COUNT (refused)`, R76 -/
  | wrUnkCountRefused (data : Word)
  /-- `rd UNK_COUNT`, R146 -/
  | rdUnkCount
  /-- `wr BITLOST_COUNT (refused)`, R76 -/
  | wrBitlostCountRefused (data : Word)
  /-- `rd BITLOST_COUNT`, R146 -/
  | rdBitlostCount
  /-- `wr LAST_PMARK_LO (refused)`, R76 -/
  | wrLastPmarkLoRefused (data : Word)
  /-- `rd LAST_PMARK_LO`, R146 -/
  | rdLastPmarkLo
  /-- `wr LAST_PMARK_HI (refused)`, R76 -/
  | wrLastPmarkHiRefused (data : Word)
  /-- `rd LAST_PMARK_HI`, R146 -/
  | rdLastPmarkHi
  /-- `wr LAST_PSPACE_LO (refused)`, R76 -/
  | wrLastPspaceLoRefused (data : Word)
  /-- `rd LAST_PSPACE_LO`, R146 -/
  | rdLastPspaceLo
  /-- `wr LAST_PSPACE_HI (refused)`, R76 -/
  | wrLastPspaceHiRefused (data : Word)
  /-- `rd LAST_PSPACE_HI`, R146 -/
  | rdLastPspaceHi
  /-- `wr PEAK_AMP_LO (refused)`, R76 -/
  | wrPeakAmpLoRefused (data : Word)
  /-- `rd PEAK_AMP_LO`, R146 -/
  | rdPeakAmpLo
  /-- `wr PEAK_AMP_HI (refused)`, R76 -/
  | wrPeakAmpHiRefused (data : Word)
  /-- `rd PEAK_AMP_HI`, R146 -/
  | rdPeakAmpHi
  /-- `wr SYNC_RESULT (refused)`, R76 -/
  | wrSyncResultRefused (data : Word)
  /-- `rd SYNC_RESULT`, R146 -/
  | rdSyncResult
  /-- `wr HEAD_POS (refused)`, R76 -/
  | wrHeadPosRefused (data : Word)
  /-- `rd HEAD_POS`, R146 -/
  | rdHeadPos
  /-- `wr TAIL_POS (refused)`, R76 -/
  | wrTailPosRefused (data : Word)
  /-- `rd TAIL_POS`, R146 -/
  | rdTailPos
  /-- `wr PAYLOAD_START (refused)`, R76 -/
  | wrPayloadStartRefused (data : Word)
  /-- `rd PAYLOAD_START`, R146 -/
  | rdPayloadStart
  /-- `wr PAYLOAD_END (refused)`, R76 -/
  | wrPayloadEndRefused (data : Word)
  /-- `rd PAYLOAD_END`, R146 -/
  | rdPayloadEnd
  /-- `wr FRAME_COUNT (refused)`, R76 -/
  | wrFrameCountRefused (data : Word)
  /-- `rd FRAME_COUNT`, R146 -/
  | rdFrameCount
  /-- `wr FRAME_ERR_COUNT (refused)`, R76 -/
  | wrFrameErrCountRefused (data : Word)
  /-- `rd FRAME_ERR_COUNT`, R146 -/
  | rdFrameErrCount
  /-- `wr OUT_TOTAL (refused)`, R76 -/
  | wrOutTotalRefused (data : Word)
  /-- `rd OUT_TOTAL`, R146 -/
  | rdOutTotal
  /-- `wr BITBUF_ADDR`, R145 -/
  | wrBitbufAddr (data : Word)
  /-- `rd BITBUF_ADDR`, R146 -/
  | rdBitbufAddr
  /-- `wr BITBUF_DATA (refused)`, R76 -/
  | wrBitbufDataRefused (data : Word)
  /-- `rd BITBUF_DATA`, R147 -/
  | rdBitbufData
  /-- `wr BITBUF_UNK (refused)`, R76 -/
  | wrBitbufUnkRefused (data : Word)
  /-- `rd BITBUF_UNK`, R147 -/
  | rdBitbufUnk
  /-- `wr RESERVED_D4 (refused)`, R77 -/
  | wrReservedD4Refused (data : Word)
  /-- `rd RESERVED_D4 (refused)`, R77 -/
  | rdReservedD4Refused
  /-- `wr RESERVED_D8 (refused)`, R77 -/
  | wrReservedD8Refused (data : Word)
  /-- `rd RESERVED_D8 (refused)`, R77 -/
  | rdReservedD8Refused
  /-- `wr RESERVED_DC (refused)`, R77 -/
  | wrReservedDcRefused (data : Word)
  /-- `rd RESERVED_DC (refused)`, R77 -/
  | rdReservedDcRefused
  /-- `wr RESERVED_E0 (refused)`, R77 -/
  | wrReservedE0Refused (data : Word)
  /-- `rd RESERVED_E0 (refused)`, R77 -/
  | rdReservedE0Refused
  /-- `wr RESERVED_E4 (refused)`, R77 -/
  | wrReservedE4Refused (data : Word)
  /-- `rd RESERVED_E4 (refused)`, R77 -/
  | rdReservedE4Refused
  /-- `wr RESERVED_E8 (refused)`, R77 -/
  | wrReservedE8Refused (data : Word)
  /-- `rd RESERVED_E8 (refused)`, R77 -/
  | rdReservedE8Refused
  /-- `wr RESERVED_EC (refused)`, R77 -/
  | wrReservedEcRefused (data : Word)
  /-- `rd RESERVED_EC (refused)`, R77 -/
  | rdReservedEcRefused
  /-- `wr RESERVED_F0 (refused)`, R77 -/
  | wrReservedF0Refused (data : Word)
  /-- `rd RESERVED_F0 (refused)`, R77 -/
  | rdReservedF0Refused
  /-- `wr RESERVED_F4 (refused)`, R77 -/
  | wrReservedF4Refused (data : Word)
  /-- `rd RESERVED_F4 (refused)`, R77 -/
  | rdReservedF4Refused
  /-- `wr RESERVED_F8 (refused)`, R77 -/
  | wrReservedF8Refused (data : Word)
  /-- `rd RESERVED_F8 (refused)`, R77 -/
  | rdReservedF8Refused
  /-- `wr RESERVED_FC (refused)`, R77 -/
  | wrReservedFcRefused (data : Word)
  /-- `rd RESERVED_FC (refused)`, R77 -/
  | rdReservedFcRefused
deriving DecidableEq, Repr

end Sys2Proof
end

