-- ==== Sys2Proof/WellFormed.lean ====
section
/-! DEFINITION. Which terms of `Instr` are instructions. Every DATA word is legal in every write
(30_encoding.md R100), with one exception: the reserved command is a CMD write whose DATA is none of the five
command words (30_encoding.md R104, R109). -/

namespace Sys2Proof

/-- DATA is one of the five command words (30_encoding.md R104). -/
def isCommandWord (data : Word) : Bool := decide (data.toNat ≤ 4)

/-- The term is an instruction (30_encoding.md R109). -/
def wellFormed : Instr → Bool
  | .cmdReserved data => !isCommandWord data
  | _ => true

end Sys2Proof
end

