-- ==== Sys2Proof/Decode.lean ====
section
/-! DEFINITION. Decoding a bus transaction (30_encoding.md R100, R101, R104) and encoding one. Every 39-bit
transaction decodes (R101). As bytes, a transaction is 5 bytes, the first the least significant, with bit 39
zero (log 13). -/

namespace Sys2Proof

/-! ## The fields of a transaction (30_encoding.md R100) -/

/-- RW, bit 38: true for a write. -/
def busRw (w : BusWord) : Bool := w.getLsbD 38

/-- WOFF, bits 37:32. -/
def busWoff (w : BusWord) : BitVec 6 := w.extractLsb' 32 6

/-- DATA, bits 31:0. -/
def busData (w : BusWord) : Word := w.extractLsb' 0 32

/-- The transaction with these fields. -/
def busWord (rw : Bool) (woff : BitVec 6) (data : Word) : BusWord := BitVec.ofBool rw ++ woff ++ data

/-! ## Decoding -/

/-- The reads in the order of WOFF, 0x00 to 0x3F (10_state.md R24, 20_memory.md R77, R78). -/
def readRows : List Instr :=
  [
    .rdId, .rdVersion, .rdParamWin, .rdParamBitbuf, .rdParamFifo, .rdCtrl, .rdCmdReturns0, .rdStatus,
    .rdEvents, .rdIntEn, .rdSampleRate, .rdBaud, .rdMarkFreq, .rdSpaceFreq, .rdBiasLo, .rdBiasHi ] ++
  [
    .rdNoiseFloorLo, .rdNoiseFloorHi, .rdAmpFloorLo, .rdAmpFloorHi, .rdHeadPat, .rdTailPat, .rdSyncCfg,
    .rdHeadWin, .rdTailWin, .rdEscape, .rdSampleLoReturns0, .rdSampleHiReturns0, .rdSfifoLevel, .rdOutData,
    .rdOutLevel, .rdSampleCount ] ++
  [
    .rdSymbolCount, .rdDropCount, .rdUnkCount, .rdBitlostCount, .rdLastPmarkLo, .rdLastPmarkHi,
    .rdLastPspaceLo, .rdLastPspaceHi, .rdPeakAmpLo, .rdPeakAmpHi, .rdSyncResult, .rdHeadPos, .rdTailPos,
    .rdPayloadStart, .rdPayloadEnd, .rdFrameCount ] ++
  [
    .rdFrameErrCount, .rdOutTotal, .rdBitbufAddr, .rdBitbufData, .rdBitbufUnk, .rdReservedD4Refused,
    .rdReservedD8Refused, .rdReservedDcRefused, .rdReservedE0Refused, .rdReservedE4Refused,
    .rdReservedE8Refused, .rdReservedEcRefused, .rdReservedF0Refused, .rdReservedF4Refused,
    .rdReservedF8Refused, .rdReservedFcRefused ]

/-- A write of CMD: the five command words, and the reserved command for any other DATA (30_encoding.md R104,
R109; 40_host_ops.md R130). -/
def decodeCmd (data : Word) : Instr :=
  if data = 0 then .cmdNop
  else if data = 1 then .cmdStart
  else if data = 2 then .cmdEnd
  else if data = 3 then .cmdAbort
  else if data = 4 then .cmdSoftReset
  else .cmdReserved data

/-- The writes in the order of WOFF, 0x00 to 0x3F (10_state.md R24, 20_memory.md R76, R77). -/
def writeRows : List (Word → Instr) :=
  [
    .wrIdRefused, .wrVersionRefused, .wrParamWinRefused, .wrParamBitbufRefused, .wrParamFifoRefused,
    .wrCtrl, decodeCmd, .wrStatusRefused, .wrEvents, .wrIntEn, .wrSampleRate, .wrBaud, .wrMarkFreq,
    .wrSpaceFreq, .wrBiasLo, .wrBiasHi ] ++
  [
    .wrNoiseFloorLo, .wrNoiseFloorHi, .wrAmpFloorLo, .wrAmpFloorHi, .wrHeadPat, .wrTailPat, .wrSyncCfg,
    .wrHeadWin, .wrTailWin, .wrEscape, .wrSampleLo, .wrSampleHi, .wrSfifoLevelRefused, .wrOutDataRefused,
    .wrOutLevelRefused, .wrSampleCountRefused ] ++
  [
    .wrSymbolCountRefused, .wrDropCountRefused, .wrUnkCountRefused, .wrBitlostCountRefused,
    .wrLastPmarkLoRefused, .wrLastPmarkHiRefused, .wrLastPspaceLoRefused, .wrLastPspaceHiRefused,
    .wrPeakAmpLoRefused, .wrPeakAmpHiRefused, .wrSyncResultRefused, .wrHeadPosRefused, .wrTailPosRefused,
    .wrPayloadStartRefused, .wrPayloadEndRefused, .wrFrameCountRefused ] ++
  [
    .wrFrameErrCountRefused, .wrOutTotalRefused, .wrBitbufAddr, .wrBitbufDataRefused, .wrBitbufUnkRefused,
    .wrReservedD4Refused, .wrReservedD8Refused, .wrReservedDcRefused, .wrReservedE0Refused,
    .wrReservedE4Refused, .wrReservedE8Refused, .wrReservedEcRefused, .wrReservedF0Refused,
    .wrReservedF4Refused, .wrReservedF8Refused, .wrReservedFcRefused ]

theorem readRows_length : readRows.length = 64 := rfl

theorem writeRows_length : writeRows.length = 64 := rfl

/-- The read at a word offset. -/
def decodeRead (woff : BitVec 6) : Instr :=
  readRows[woff.toNat]'(by rw [readRows_length]; exact woff.isLt)

/-- The write at a word offset. -/
def decodeWrite (woff : BitVec 6) (data : Word) : Instr :=
  (writeRows[woff.toNat]'(by rw [writeRows_length]; exact woff.isLt)) data

/-- The instruction of a transaction (30_encoding.md R101); a read's DATA is ignored (R100). -/
def decodeBus (w : BusWord) : Instr :=
  if busRw w then decodeWrite (busWoff w) (busData w) else decodeRead (busWoff w)

/-- Why bytes are no transaction. -/
inductive DecodeError where
  /-- fewer than 5 bytes -/
  | truncated
  /-- bit 39, which no transaction has, is set -/
  | notABusTransaction
deriving DecidableEq, Repr

/-- The number that 5 bytes hold, the first byte the least significant (log 13). -/
def bytesValue : List Byte → Nat
  | [] => 0
  | b :: rest => b.toNat + 256 * bytesValue rest

/-- Decode the transaction at the head of a list of bytes (log 13). -/
def decodeBytes (bytes : List Byte) : Except DecodeError (Instr × List Byte) :=
  if bytes.length < 5 then .error .truncated
  else
    let n := bytesValue (bytes.take 5)
    if n < 2 ^ 39 then .ok (decodeBus (BitVec.ofNat 39 n), bytes.drop 5) else .error .notABusTransaction

/-- A number laid out as `n` bytes, the first the least significant (log 13). -/
def toBytes : (n v : Nat) → List Byte
  | 0, _ => []
  | n + 1, v => BitVec.ofNat 8 v :: toBytes n (v / 256)

/-- The instruction the decoder reads from an instruction whose bits are `w`, numbered as the opcode table
numbers them, of which the low `nbits` are given and the rest are zero. -/
def decodeTableWord (nbits w : Nat) : Option Instr :=
  match decodeBytes (toBytes 5 (w % 2 ^ nbits)) with
  | .ok (i, _) => some i
  | .error _ => none

/-- The same instruction as a bus transaction. -/
def busOfTableWord (nbits w : Nat) : BusWord := BitVec.ofNat 39 (w % 2 ^ nbits)

/-! ## Encoding -/

/-- The bus transaction of a well-formed instruction (30_encoding.md R100, R104): a read's DATA is written as 0. -/
def encode : Instr → BusWord
  | .wrIdRefused data => busWord true 0x00 data
  | .rdId => busWord false 0x00 0
  | .wrVersionRefused data => busWord true 0x01 data
  | .rdVersion => busWord false 0x01 0
  | .wrParamWinRefused data => busWord true 0x02 data
  | .rdParamWin => busWord false 0x02 0
  | .wrParamBitbufRefused data => busWord true 0x03 data
  | .rdParamBitbuf => busWord false 0x03 0
  | .wrParamFifoRefused data => busWord true 0x04 data
  | .rdParamFifo => busWord false 0x04 0
  | .wrCtrl data => busWord true 0x05 data
  | .rdCtrl => busWord false 0x05 0
  | .cmdNop => busWord true 0x06 0
  | .cmdStart => busWord true 0x06 1
  | .cmdEnd => busWord true 0x06 2
  | .cmdAbort => busWord true 0x06 3
  | .cmdSoftReset => busWord true 0x06 4
  | .cmdReserved data => busWord true 0x06 data
  | .rdCmdReturns0 => busWord false 0x06 0
  | .wrStatusRefused data => busWord true 0x07 data
  | .rdStatus => busWord false 0x07 0
  | .wrEvents data => busWord true 0x08 data
  | .rdEvents => busWord false 0x08 0
  | .wrIntEn data => busWord true 0x09 data
  | .rdIntEn => busWord false 0x09 0
  | .wrSampleRate data => busWord true 0x0A data
  | .rdSampleRate => busWord false 0x0A 0
  | .wrBaud data => busWord true 0x0B data
  | .rdBaud => busWord false 0x0B 0
  | .wrMarkFreq data => busWord true 0x0C data
  | .rdMarkFreq => busWord false 0x0C 0
  | .wrSpaceFreq data => busWord true 0x0D data
  | .rdSpaceFreq => busWord false 0x0D 0
  | .wrBiasLo data => busWord true 0x0E data
  | .rdBiasLo => busWord false 0x0E 0
  | .wrBiasHi data => busWord true 0x0F data
  | .rdBiasHi => busWord false 0x0F 0
  | .wrNoiseFloorLo data => busWord true 0x10 data
  | .rdNoiseFloorLo => busWord false 0x10 0
  | .wrNoiseFloorHi data => busWord true 0x11 data
  | .rdNoiseFloorHi => busWord false 0x11 0
  | .wrAmpFloorLo data => busWord true 0x12 data
  | .rdAmpFloorLo => busWord false 0x12 0
  | .wrAmpFloorHi data => busWord true 0x13 data
  | .rdAmpFloorHi => busWord false 0x13 0
  | .wrHeadPat data => busWord true 0x14 data
  | .rdHeadPat => busWord false 0x14 0
  | .wrTailPat data => busWord true 0x15 data
  | .rdTailPat => busWord false 0x15 0
  | .wrSyncCfg data => busWord true 0x16 data
  | .rdSyncCfg => busWord false 0x16 0
  | .wrHeadWin data => busWord true 0x17 data
  | .rdHeadWin => busWord false 0x17 0
  | .wrTailWin data => busWord true 0x18 data
  | .rdTailWin => busWord false 0x18 0
  | .wrEscape data => busWord true 0x19 data
  | .rdEscape => busWord false 0x19 0
  | .wrSampleLo data => busWord true 0x1A data
  | .rdSampleLoReturns0 => busWord false 0x1A 0
  | .wrSampleHi data => busWord true 0x1B data
  | .rdSampleHiReturns0 => busWord false 0x1B 0
  | .wrSfifoLevelRefused data => busWord true 0x1C data
  | .rdSfifoLevel => busWord false 0x1C 0
  | .wrOutDataRefused data => busWord true 0x1D data
  | .rdOutData => busWord false 0x1D 0
  | .wrOutLevelRefused data => busWord true 0x1E data
  | .rdOutLevel => busWord false 0x1E 0
  | .wrSampleCountRefused data => busWord true 0x1F data
  | .rdSampleCount => busWord false 0x1F 0
  | .wrSymbolCountRefused data => busWord true 0x20 data
  | .rdSymbolCount => busWord false 0x20 0
  | .wrDropCountRefused data => busWord true 0x21 data
  | .rdDropCount => busWord false 0x21 0
  | .wrUnkCountRefused data => busWord true 0x22 data
  | .rdUnkCount => busWord false 0x22 0
  | .wrBitlostCountRefused data => busWord true 0x23 data
  | .rdBitlostCount => busWord false 0x23 0
  | .wrLastPmarkLoRefused data => busWord true 0x24 data
  | .rdLastPmarkLo => busWord false 0x24 0
  | .wrLastPmarkHiRefused data => busWord true 0x25 data
  | .rdLastPmarkHi => busWord false 0x25 0
  | .wrLastPspaceLoRefused data => busWord true 0x26 data
  | .rdLastPspaceLo => busWord false 0x26 0
  | .wrLastPspaceHiRefused data => busWord true 0x27 data
  | .rdLastPspaceHi => busWord false 0x27 0
  | .wrPeakAmpLoRefused data => busWord true 0x28 data
  | .rdPeakAmpLo => busWord false 0x28 0
  | .wrPeakAmpHiRefused data => busWord true 0x29 data
  | .rdPeakAmpHi => busWord false 0x29 0
  | .wrSyncResultRefused data => busWord true 0x2A data
  | .rdSyncResult => busWord false 0x2A 0
  | .wrHeadPosRefused data => busWord true 0x2B data
  | .rdHeadPos => busWord false 0x2B 0
  | .wrTailPosRefused data => busWord true 0x2C data
  | .rdTailPos => busWord false 0x2C 0
  | .wrPayloadStartRefused data => busWord true 0x2D data
  | .rdPayloadStart => busWord false 0x2D 0
  | .wrPayloadEndRefused data => busWord true 0x2E data
  | .rdPayloadEnd => busWord false 0x2E 0
  | .wrFrameCountRefused data => busWord true 0x2F data
  | .rdFrameCount => busWord false 0x2F 0
  | .wrFrameErrCountRefused data => busWord true 0x30 data
  | .rdFrameErrCount => busWord false 0x30 0
  | .wrOutTotalRefused data => busWord true 0x31 data
  | .rdOutTotal => busWord false 0x31 0
  | .wrBitbufAddr data => busWord true 0x32 data
  | .rdBitbufAddr => busWord false 0x32 0
  | .wrBitbufDataRefused data => busWord true 0x33 data
  | .rdBitbufData => busWord false 0x33 0
  | .wrBitbufUnkRefused data => busWord true 0x34 data
  | .rdBitbufUnk => busWord false 0x34 0
  | .wrReservedD4Refused data => busWord true 0x35 data
  | .rdReservedD4Refused => busWord false 0x35 0
  | .wrReservedD8Refused data => busWord true 0x36 data
  | .rdReservedD8Refused => busWord false 0x36 0
  | .wrReservedDcRefused data => busWord true 0x37 data
  | .rdReservedDcRefused => busWord false 0x37 0
  | .wrReservedE0Refused data => busWord true 0x38 data
  | .rdReservedE0Refused => busWord false 0x38 0
  | .wrReservedE4Refused data => busWord true 0x39 data
  | .rdReservedE4Refused => busWord false 0x39 0
  | .wrReservedE8Refused data => busWord true 0x3A data
  | .rdReservedE8Refused => busWord false 0x3A 0
  | .wrReservedEcRefused data => busWord true 0x3B data
  | .rdReservedEcRefused => busWord false 0x3B 0
  | .wrReservedF0Refused data => busWord true 0x3C data
  | .rdReservedF0Refused => busWord false 0x3C 0
  | .wrReservedF4Refused data => busWord true 0x3D data
  | .rdReservedF4Refused => busWord false 0x3D 0
  | .wrReservedF8Refused data => busWord true 0x3E data
  | .rdReservedF8Refused => busWord false 0x3E 0
  | .wrReservedFcRefused data => busWord true 0x3F data
  | .rdReservedFcRefused => busWord false 0x3F 0

/-- The 5 bytes of a well-formed instruction (log 13). -/
def encodeBytes (i : Instr) : List Byte := toBytes 5 (encode i).toNat

end Sys2Proof
end

