-- ==== Sys2Proof/Machine/RegMap.lean ====
section
/-! DEFINITION. The register map of 10_state.md R24: names, offsets, access types, write masks, reset values. -/

namespace Sys2Proof.Machine

/-- The 17 RWL registers: the configuration, locked while a message is open (20_memory.md R84). -/
inductive CfgReg where
  | ctrl | sampleRate | baud | markFreq | spaceFreq | biasLo | biasHi | noiseFloorLo | noiseFloorHi
  | ampFloorLo | ampFloorHi | headPat | tailPat | syncCfg | headWin | tailWin | escape
deriving DecidableEq, Repr

/-- Every register of 10_state.md R24, in offset order; the RWL registers are `cfg`. -/
inductive Reg where
  | id | version | paramWin | paramBitbuf | paramFifo
  | cfg (r : CfgReg)
  | cmd | status | events | intEn
  | sampleLo | sampleHi | sfifoLevel | outData | outLevel
  | sampleCount | symbolCount | dropCount | unkCount | bitlostCount
  | lastPmarkLo | lastPmarkHi | lastPspaceLo | lastPspaceHi | peakAmpLo | peakAmpHi
  | syncResult | headPos | tailPos | payloadStart | payloadEnd | frameCount | frameErrCount | outTotal
  | bitbufAddr | bitbufData | bitbufUnk
deriving DecidableEq, Repr

/-- The access column of 10_state.md R24. -/
inductive Access where
  | ro | rw | rwl | wo | w1c | rp
deriving DecidableEq, Repr

/-- WOFF of an RWL register (10_state.md R24, offset divided by 4). -/
def cfgWoff : CfgReg → BitVec 6
  | .ctrl => 0x05 | .sampleRate => 0x0A | .baud => 0x0B | .markFreq => 0x0C | .spaceFreq => 0x0D
  | .biasLo => 0x0E | .biasHi => 0x0F | .noiseFloorLo => 0x10 | .noiseFloorHi => 0x11
  | .ampFloorLo => 0x12 | .ampFloorHi => 0x13 | .headPat => 0x14 | .tailPat => 0x15 | .syncCfg => 0x16
  | .headWin => 0x17 | .tailWin => 0x18 | .escape => 0x19

/-- WOFF of a register (10_state.md R24, offset divided by 4). -/
def regWoff : Reg → BitVec 6
  | .id => 0x00 | .version => 0x01 | .paramWin => 0x02 | .paramBitbuf => 0x03 | .paramFifo => 0x04
  | .cfg r => cfgWoff r
  | .cmd => 0x06 | .status => 0x07 | .events => 0x08 | .intEn => 0x09
  | .sampleLo => 0x1A | .sampleHi => 0x1B | .sfifoLevel => 0x1C | .outData => 0x1D | .outLevel => 0x1E
  | .sampleCount => 0x1F | .symbolCount => 0x20 | .dropCount => 0x21 | .unkCount => 0x22
  | .bitlostCount => 0x23 | .lastPmarkLo => 0x24 | .lastPmarkHi => 0x25 | .lastPspaceLo => 0x26
  | .lastPspaceHi => 0x27 | .peakAmpLo => 0x28 | .peakAmpHi => 0x29 | .syncResult => 0x2A
  | .headPos => 0x2B | .tailPos => 0x2C | .payloadStart => 0x2D | .payloadEnd => 0x2E
  | .frameCount => 0x2F | .frameErrCount => 0x30 | .outTotal => 0x31 | .bitbufAddr => 0x32
  | .bitbufData => 0x33 | .bitbufUnk => 0x34

/-- The access type of a register (10_state.md R24). -/
def regAccess : Reg → Access
  | .cfg _ => .rwl
  | .cmd | .sampleLo | .sampleHi => .wo
  | .events => .w1c
  | .intEn | .bitbufAddr => .rw
  | .outData => .rp
  | .id | .version | .paramWin | .paramBitbuf | .paramFifo | .status | .sfifoLevel | .outLevel
  | .sampleCount | .symbolCount | .dropCount | .unkCount | .bitlostCount
  | .lastPmarkLo | .lastPmarkHi | .lastPspaceLo | .lastPspaceHi | .peakAmpLo | .peakAmpHi
  | .syncResult | .headPos | .tailPos | .payloadStart | .payloadEnd | .frameCount | .frameErrCount
  | .outTotal | .bitbufData | .bitbufUnk => .ro

/-- The write mask of an RWL register (20_memory.md R80). -/
def cfgMask : CfgReg → Word
  | .ctrl => 0x0000003F
  | .syncCfg => 0x003F3F3F
  | .escape => 0x000000FF
  | .sampleRate | .baud | .markFreq | .spaceFreq | .biasLo | .biasHi | .noiseFloorLo | .noiseFloorHi
  | .ampFloorLo | .ampFloorHi | .headPat | .tailPat | .headWin | .tailWin => 0xFFFFFFFF

/-- The write mask of INT_EN (20_memory.md R80), which is also the set of the 13 event bits (10_state.md R35). -/
def intEnMask : Word := 0x00001FFF

/-- The reset value of an RWL register (10_state.md R24, 70_reset_and_hazards.md R300). -/
def cfgReset : CfgReg → Word
  | .ctrl => 0 | .sampleRate => 48000 | .baud => 1200 | .markFreq => 2200 | .spaceFreq => 1200
  | .biasLo => 0 | .biasHi => 0x3FF00000 | .noiseFloorLo => 0 | .noiseFloorHi => 0
  | .ampFloorLo => 0 | .ampFloorHi => 0 | .headPat => 0x24 | .tailPat => 0x23 | .syncCfg => 0x00010808
  | .headWin => 0 | .tailWin => 0 | .escape => 0x7D

/-- The 13 events (60_exceptions.md R270). -/
inductive Event where
  | done | cfgErr | cmdErr | pushErr | sampleOvf | bitbufOvf | nonfinite | weak | headMiss | tailMiss
  | syncFail | truncEsc | lockErr
deriving DecidableEq, Repr

/-- The code of an event, which is its bit of EVENTS (60_exceptions.md R270). -/
def eventCode : Event → Nat
  | .done => 0 | .cfgErr => 1 | .cmdErr => 2 | .pushErr => 3 | .sampleOvf => 4 | .bitbufOvf => 5
  | .nonfinite => 6 | .weak => 7 | .headMiss => 8 | .tailMiss => 9 | .syncFail => 10 | .truncEsc => 11
  | .lockErr => 12

/-- The bit of an event in EVENTS and INT_EN (60_exceptions.md R270). -/
def eventBit (e : Event) : Word := 1#32 <<< eventCode e

end Sys2Proof.Machine
end

