-- ==== Sys2Proof/Machine/State.lean ====
section
/-! DEFINITION. The state of the block as plain data (10_state.md R20–R69), what stands outside the block and is
held beside it (log 1, log 2, log 10), the reasons a step could stop with, and the state after reset. -/

namespace Sys2Proof.Machine

/-- Which COEFF_FN the instance has (00_scope.md R8): the default of 41_tone_energy.md R172, or another total
function, by number (log 4). -/
inductive CoeffChoice where
  | default
  | custom (which : Nat)
deriving DecidableEq, Repr

/-- The parameters of the instance (00_scope.md R8). No step changes them (70_reset_and_hazards.md R302). -/
structure Params where
  winMax : Nat := Config.defaultWinMax
  bitbufDepth : Nat := Config.defaultBitbufDepth
  sfifoDepth : Nat := Config.defaultSfifoDepth
  ofifoDepth : Nat := Config.defaultOfifoDepth
  coeff : CoeffChoice := .default
deriving DecidableEq, Repr

/-- The engine state STATE (10_state.md R22). -/
inductive EngineState where
  | idle | run | finish | done | error
deriving DecidableEq, Repr

/-- The sub-phase FPHASE of FINISH (10_state.md R66). -/
inductive FPhase where
  | drain | compute | deliver
deriving DecidableEq, Repr

/-- The configuration registers (10_state.md R24, the RWL rows). -/
structure ConfigRegs where
  ctrl : Word
  sampleRate : Word
  baud : Word
  markFreq : Word
  spaceFreq : Word
  biasLo : Word
  biasHi : Word
  noiseFloorLo : Word
  noiseFloorHi : Word
  ampFloorLo : Word
  ampFloorHi : Word
  headPat : Word
  tailPat : Word
  syncCfg : Word
  headWin : Word
  tailWin : Word
  escape : Word
deriving DecidableEq, Repr

/-- One position of BITBUF and of its parallel plane UNKBUF (10_state.md R64). -/
structure Symbol where
  bit : Bool
  unk : Bool
deriving DecidableEq, Repr

/-- The message state (10_state.md R67). A buffer is the list of its valid entries, so WLEN and BITLEN are
lengths (log 9). -/
structure Message where
  /-- SFIFO, the oldest sample first (R61) -/
  sfifo : List F64
  /-- WINBUF[0..WLEN) (R62) -/
  winbuf : List F64
  /-- PEAK (R63) -/
  peak : F64
  /-- BITBUF[0..BITLEN) and UNKBUF[0..BITLEN), the earliest symbol first (R64) -/
  bitbuf : List Symbol
  /-- LAST_PM (R63) -/
  lastPm : F64
  /-- LAST_PS (R63) -/
  lastPs : F64
  /-- OUTSEQ, the next entry to deliver first (R65) -/
  outseq : List Word
  /-- OFIFO, the oldest entry first (R65) -/
  ofifo : List Word
  /-- FPHASE (R66) -/
  fphase : FPhase
  sampleCount : Word
  dropCount : Word
  unkCount : Word
  bitlostCount : Word
  syncResult : Word
  headPos : Word
  tailPos : Word
  payloadStart : Word
  payloadEnd : Word
  frameCount : Word
  frameErrCount : Word
  outTotal : Word
deriving DecidableEq, Repr

/-- RESP of a bus transaction (30_encoding.md R100). -/
inductive Resp where
  | ok | busErr
deriving DecidableEq, Repr

/-- The response of a bus transaction (30_encoding.md R100). -/
structure BusResp where
  resp : Resp
  rdata : Word
deriving DecidableEq, Repr

/-- The sizes of access a 32-bit platform bus can ask for (20_memory.md R75). -/
inductive AccessSize where
  | byte | half | word
deriving DecidableEq, Repr

/-- An access as the platform adapter receives it (20_memory.md R75). -/
structure PlatformAccess where
  write : Bool
  addr : Nat
  size : AccessSize
  data : Word
deriving DecidableEq, Repr

/-- What the host and the platform do, one item a step (log 1). -/
inductive Input where
  /-- one bus transaction at the block's port (30_encoding.md R100) -/
  | bus (w : BusWord)
  /-- the host statement `poll REG, mask, val` (30_encoding.md R110): read until the masked value is `val` -/
  | poll (woff : BitVec 6) (mask val : Word)
  /-- an access at the platform bus, before the adapter (20_memory.md R75) -/
  | platform (a : PlatformAccess)
  /-- the platform asserts the reset input (70_reset_and_hazards.md R300) -/
  | resetLine
deriving DecidableEq, Repr

/-- The whole state: the block's (10_state.md R20), the instance's parameters, and the four fields of the model's
own that stand for what is outside the block. -/
structure State where
  /-- the instance's parameters, read through PARAM_WIN, PARAM_BITBUF and PARAM_FIFO (10_state.md R26) -/
  params : Params
  /-- STATE (10_state.md R22) -/
  state : EngineState
  /-- the RWL registers -/
  cfg : ConfigRegs
  /-- EVENTS (10_state.md R35) -/
  events : Word
  /-- INT_EN (10_state.md R36) -/
  intEn : Word
  /-- BITBUF_ADDR (10_state.md R56) -/
  bitbufAddr : Word
  /-- LO_LATCH (10_state.md R60) -/
  loLatch : Word
  /-- the message state (10_state.md R67) -/
  msg : Message
  /-- MODEL'S OWN (log 1): what the host and the platform do next, in order -/
  inbox : List Input
  /-- MODEL'S OWN (log 2): the agents that take the next steps, in order -/
  turns : List Agent
  /-- MODEL'S OWN (log 2): how many steps were taken, the index into the schedule -/
  ticks : Nat
  /-- MODEL'S OWN (log 10): the responses given, the newest first -/
  responses : List BusResp
deriving DecidableEq, Repr

/-- The reasons a step stops with a fault. There is none: "Fault: none. Every admitted access and every engine
step has a defined result" (60_exceptions.md R290). Nobody raises one; having none is safe, since no step is
thereby allowed that the spec forbids. -/
inductive Fault where
deriving DecidableEq, Repr

/-- The reasons a step is refused. -/
inductive Refusal where
  /-- raised by an arm of `exec` whose instruction has no meaning yet; no arm is so. Safe: the machine stops. -/
  | notModelled (mnemonic : String)
deriving DecidableEq, Repr

/-- The reset values of the configuration registers (70_reset_and_hazards.md R300). -/
def ConfigRegs.reset : ConfigRegs where
  ctrl := cfgReset .ctrl
  sampleRate := cfgReset .sampleRate
  baud := cfgReset .baud
  markFreq := cfgReset .markFreq
  spaceFreq := cfgReset .spaceFreq
  biasLo := cfgReset .biasLo
  biasHi := cfgReset .biasHi
  noiseFloorLo := cfgReset .noiseFloorLo
  noiseFloorHi := cfgReset .noiseFloorHi
  ampFloorLo := cfgReset .ampFloorLo
  ampFloorHi := cfgReset .ampFloorHi
  headPat := cfgReset .headPat
  tailPat := cfgReset .tailPat
  syncCfg := cfgReset .syncCfg
  headWin := cfgReset .headWin
  tailWin := cfgReset .tailWin
  escape := cfgReset .escape

/-- The clear message state (10_state.md R67): lists empty, counts, positions and results 0, binary64 values +0.0.
FPHASE has no cleared value in the spec: DESIGN CHOICE DRAIN, never observable (log 8). -/
def Message.clear : Message where
  sfifo := []
  winbuf := []
  peak := 0
  bitbuf := []
  lastPm := 0
  lastPs := 0
  outseq := []
  ofifo := []
  fphase := .drain
  sampleCount := 0
  dropCount := 0
  unkCount := 0
  bitlostCount := 0
  syncResult := 0
  headPos := 0
  tailPos := 0
  payloadStart := 0
  payloadEnd := 0
  frameCount := 0
  frameErrCount := 0
  outTotal := 0

/-- The machine right after reset (70_reset_and_hazards.md R300), an instance with the default parameters
(00_scope.md R8), with no host access issued yet (DESIGN CHOICE, log 1, log 2, log 10). -/
def State.reset : State where
  params := {}
  state := .idle
  cfg := ConfigRegs.reset
  events := 0
  intEn := 0
  bitbufAddr := 0
  loLatch := 0
  msg := Message.clear
  inbox := []
  turns := []
  ticks := 0
  responses := []

end Sys2Proof.Machine
end

