-- ==== Sys2Proof/Machine/Float64.lean ====
section
/-! DEFINITION. IEEE 754 binary64 arithmetic on encodings (00_scope.md R14): addition, subtraction and
multiplication rounded to nearest, ties to even, without fusion and without flushing subnormals; the comparisons.
Operands are turned into exact integers in units of 2^-1074, the result is computed exactly, and rounded once
(log 11). The encoding of a NaN result is an argument, which the caller draws (log 3). -/

namespace Sys2Proof.Machine

/-- The sign bit (00_scope.md R14). -/
def fSign (a : F64) : Bool := a.getLsbD 63

/-- The exponent field, bits 62:52. -/
def fExp (a : F64) : Nat := (a.extractLsb' 52 11).toNat

/-- The fraction field, bits 51:0. -/
def fFrac (a : F64) : Nat := (a.extractLsb' 0 52).toNat

/-- The value is a NaN. -/
def isNaN (a : F64) : Bool := fExp a == 2047 && fFrac a != 0

/-- The value is plus or minus infinity. -/
def isInf (a : F64) : Bool := fExp a == 2047 && fFrac a == 0

/-- The magnitude of a finite value, in units of 2^-1074. -/
def fMag (a : F64) : Nat :=
  if fExp a = 0 then fFrac a else (2 ^ 52 + fFrac a) * 2 ^ (fExp a - 1)

/-- The signed value of a finite value, in units of 2^-1074. -/
def fVal (a : F64) : Int := if fSign a then -(fMag a : Int) else (fMag a : Int)

/-- The encoding with a given sign and the exponent and fraction fields read as one number. -/
def fPack (sign : Bool) (body : Nat) : F64 :=
  BitVec.ofNat 64 ((if sign then 2 ^ 63 else 0) + body)

/-- The exponent and fraction fields of infinity. -/
def infBody : Nat := 2047 * 2 ^ 52

/-- Round to nearest, ties to even: the exponent and fraction fields of the binary64 nearest to
`n` times 2^-(1074+u), infinity when that overflows (00_scope.md R14). -/
def roundMag (n u : Nat) : Nat :=
  let sh := max (n.log2 + 1 - 53) u
  let q := n / 2 ^ sh
  let r := n % 2 ^ sh
  let up := 2 * r > 2 ^ sh || (2 * r == 2 ^ sh && q % 2 == 1)
  min ((sh - u) * 2 ^ 52 + (if up then q + 1 else q)) infBody

/-- A NaN encoding made of a drawn value: the value itself where it is one (00_scope.md R14, log 3). -/
def asNaN (raw : F64) : F64 := if isNaN raw then raw else fPack (fSign raw) (infBody + 2 ^ 51)

/-- `fadd(a, b)` (00_scope.md R14); `nan` is the drawn encoding, used where the result is a NaN. -/
def fadd (nan a b : F64) : F64 :=
  if isNaN a || isNaN b then asNaN nan
  else if isInf a then
    if isInf b && fSign a != fSign b then asNaN nan else a
  else if isInf b then b
  else
    let z := fVal a + fVal b
    if z = 0 then fPack (fSign a && fSign b) 0
    else fPack (decide (z < 0)) (roundMag z.natAbs 0)

/-- The value with its sign bit turned over. -/
def fneg (a : F64) : F64 := a ^^^ fPack true 0

/-- `fsub(a, b)` (00_scope.md R14). -/
def fsub (nan a b : F64) : F64 := fadd nan a (fneg b)

/-- `fmul(a, b)` (00_scope.md R14). -/
def fmul (nan a b : F64) : F64 :=
  let sign := fSign a != fSign b
  if isNaN a || isNaN b then asNaN nan
  else if isInf a then
    if !isInf b && fMag b == 0 then asNaN nan else fPack sign infBody
  else if isInf b then
    if fMag a == 0 then asNaN nan else fPack sign infBody
  else fPack sign (roundMag (fMag a * fMag b) 1074)

/-- `fabs(a)` clears the sign bit (00_scope.md R14). -/
def fabs (a : F64) : F64 := a &&& fPack false (2 ^ 63 - 1)

/-- Where a value that is no NaN stands among the values: the exponent and fraction fields as one number, with
the sign of the value. Both zeros stand at 0. -/
def fOrd (a : F64) : Int :=
  let body : Nat := (a.extractLsb' 0 63).toNat
  if fSign a then -(body : Int) else (body : Int)

/-- `flt(a, b)`: less than, false when either operand is a NaN (00_scope.md R14). -/
def flt (a b : F64) : Bool := !isNaN a && !isNaN b && decide (fOrd a < fOrd b)

/-- `fgt(a, b)`: greater than, false when either operand is a NaN (00_scope.md R14). -/
def fgt (a b : F64) : Bool := flt b a

end Sys2Proof.Machine
end

