-- ==== Sys2Proof/Machine/Operands.lean ====
section
/-! DEFINITION. The fields of the configuration registers (30_encoding.md R105: unsigned, zero-extended), the
quantities derived from them (10_state.md R23), and bits read as numbers. -/

namespace Sys2Proof.Machine

/-- CTRL.BIT_ORDER (10_state.md R28). -/
inductive BitOrder where
  | lsbFirst | msbFirst
deriving DecidableEq, Repr

/-- CTRL.SLICE_MODE (10_state.md R30). -/
inductive SliceMode where
  | markTest | spaceTest
deriving DecidableEq, Repr

/-- CTRL.GATE_MODE (10_state.md R32). -/
inductive GateMode where
  | none | drop | unknown | reserved
deriving DecidableEq, Repr

/-- CTRL bit 0 (10_state.md R28). -/
def ConfigRegs.bitOrder (c : ConfigRegs) : BitOrder := if c.ctrl.getLsbD 0 then .msbFirst else .lsbFirst

/-- CTRL bit 1, SYNC_STRICT (10_state.md R29). -/
def ConfigRegs.syncStrict (c : ConfigRegs) : Bool := c.ctrl.getLsbD 1

/-- CTRL bit 2 (10_state.md R30). -/
def ConfigRegs.sliceMode (c : ConfigRegs) : SliceMode := if c.ctrl.getLsbD 2 then .spaceTest else .markTest

/-- CTRL bit 3, POLARITY (10_state.md R31). -/
def ConfigRegs.polarity (c : ConfigRegs) : Bool := c.ctrl.getLsbD 3

/-- CTRL bits 5:4 (10_state.md R32). -/
def ConfigRegs.gateMode (c : ConfigRegs) : GateMode :=
  match c.ctrl.getLsbD 5, c.ctrl.getLsbD 4 with
  | false, false => .none
  | false, true => .drop
  | true, false => .unknown
  | true, true => .reserved

/-- SYNC_CFG bits 5:0, HEAD_LEN (10_state.md R43). -/
def ConfigRegs.headLen (c : ConfigRegs) : Nat := (c.syncCfg.extractLsb' 0 6).toNat

/-- SYNC_CFG bits 13:8, TAIL_LEN (10_state.md R43). -/
def ConfigRegs.tailLen (c : ConfigRegs) : Nat := (c.syncCfg.extractLsb' 8 6).toNat

/-- SYNC_CFG bits 21:16, MAX_ERR (10_state.md R43). -/
def ConfigRegs.maxErr (c : ConfigRegs) : Nat := (c.syncCfg.extractLsb' 16 6).toNat

/-- ESCAPE bits 7:0 (10_state.md R45). -/
def ConfigRegs.escapeByte (c : ConfigRegs) : Byte := c.escape.extractLsb' 0 8

/-- BIAS (10_state.md R39). -/
def ConfigRegs.bias (c : ConfigRegs) : F64 := f64 c.biasHi c.biasLo

/-- NOISE_FLOOR (10_state.md R40). -/
def ConfigRegs.noiseFloor (c : ConfigRegs) : F64 := f64 c.noiseFloorHi c.noiseFloorLo

/-- AMP_FLOOR (10_state.md R41). -/
def ConfigRegs.ampFloor (c : ConfigRegs) : F64 := f64 c.ampFloorHi c.ampFloorLo

/-- `N`, the symbol window length (10_state.md R23). -/
def ConfigRegs.windowLen (c : ConfigRegs) : Nat :=
  if c.baud = 0 then 0 else c.sampleRate.toNat / c.baud.toNat

/-- A list of bits read as a number, its first bit the least significant. -/
def bitsValue : List Bool → Nat
  | [] => 0
  | b :: rest => b.toNat + 2 * bitsValue rest

/-- Word `addr` of a plane of the bit buffer: bit `j` is the plane's bit `32·addr + j`, 0 past its end, without
wrap (10_state.md R57). -/
def bitWord (plane : List Bool) (addr : Word) : Word :=
  BitVec.ofNat 32 (bitsValue ((plane.drop (32 * addr.toNat)).take 32))

/-- The marker of length `m` held in a pattern register, the earliest bit first: register bit `m-1-j` is bit `j`
(10_state.md R42, 43_frame_sync.md R210). -/
def markerBits (pat : Word) (m : Nat) : List Bool :=
  (List.range m).map fun j => pat.getLsbD (m - 1 - j)

/-- The sample of a push: DATA above LO_LATCH (30_encoding.md R103). -/
def pushedSample (data loLatch : Word) : F64 := f64 data loLatch

end Sys2Proof.Machine
end

