-- ==== Sys2Proof/Machine/Flags.lean ====
section
/-! DEFINITION. The block's only status bits (10_state.md R69): EVENTS, the interrupt level, STATUS, and the word
of SYNC_RESULT. -/

namespace Sys2Proof.Machine

/-- `raise Event(NAME)`: set the event's bit and do nothing else (00_scope.md R13, 60_exceptions.md R270). -/
def State.raise (s : State) (e : Event) : State := { s with events := s.events ||| eventBit e }

/-- The interrupt output, a level (60_exceptions.md R280). -/
def irq (s : State) : Bool := s.events &&& s.intEn != 0

/-- The encoding of STATE (10_state.md R22). -/
def stateCode : EngineState → BitVec 3
  | .idle => 0 | .run => 1 | .finish => 2 | .done => 3 | .error => 4

/-- A message is open: STATE is RUN or FINISH, and the configuration is locked (20_memory.md R84). -/
def State.isOpen (s : State) : Bool := s.state == .run || s.state == .finish

/-- The word of STATUS (10_state.md R34, 40_host_ops.md R148). -/
def statusWord (s : State) : Word :=
  0#25 ++ BitVec.ofBool (s.msg.bitbuf.length == s.params.bitbufDepth)
    ++ BitVec.ofBool (decide (s.msg.ofifo.length > 0))
    ++ BitVec.ofBool (s.msg.sfifo.length == s.params.sfifoDepth)
    ++ BitVec.ofBool (irq s) ++ stateCode s.state

/-- The word of SYNC_RESULT (10_state.md R52): HEAD_FOUND bit 0, TAIL_FOUND bit 1, TAIL_SEARCHED bit 2,
HEAD_ERR bits 13:8, TAIL_ERR bits 21:16. -/
def syncWord (headFound tailFound tailSearched : Bool) (headErr tailErr : Nat) : Word :=
  BitVec.ofNat 10 0 ++ BitVec.ofNat 6 tailErr ++ BitVec.ofNat 2 0 ++ BitVec.ofNat 6 headErr ++ BitVec.ofNat 5 0
    ++ BitVec.ofBool tailSearched ++ BitVec.ofBool tailFound ++ BitVec.ofBool headFound

end Sys2Proof.Machine
end

