-- ==== Sys2Proof/Machine/Ops.lean ====
section
/-! DEFINITION. The shared operations on the state: the value of every register, the responses, the register
writes, clearing the message state, and reset. The block takes no trap (60_exceptions.md R281): what stands in
the place of taking an exception is `State.raise`, and of returning from one the write of EVENTS. -/

namespace Sys2Proof.Machine

/-- The value of an RWL register. -/
def ConfigRegs.get (c : ConfigRegs) : CfgReg → Word
  | .ctrl => c.ctrl | .sampleRate => c.sampleRate | .baud => c.baud | .markFreq => c.markFreq
  | .spaceFreq => c.spaceFreq | .biasLo => c.biasLo | .biasHi => c.biasHi
  | .noiseFloorLo => c.noiseFloorLo | .noiseFloorHi => c.noiseFloorHi
  | .ampFloorLo => c.ampFloorLo | .ampFloorHi => c.ampFloorHi
  | .headPat => c.headPat | .tailPat => c.tailPat | .syncCfg => c.syncCfg
  | .headWin => c.headWin | .tailWin => c.tailWin | .escape => c.escape

/-- The configuration with one RWL register replaced. -/
def ConfigRegs.set (c : ConfigRegs) (r : CfgReg) (v : Word) : ConfigRegs :=
  match r with
  | .ctrl => { c with ctrl := v } | .sampleRate => { c with sampleRate := v } | .baud => { c with baud := v }
  | .markFreq => { c with markFreq := v } | .spaceFreq => { c with spaceFreq := v }
  | .biasLo => { c with biasLo := v } | .biasHi => { c with biasHi := v }
  | .noiseFloorLo => { c with noiseFloorLo := v } | .noiseFloorHi => { c with noiseFloorHi := v }
  | .ampFloorLo => { c with ampFloorLo := v } | .ampFloorHi => { c with ampFloorHi := v }
  | .headPat => { c with headPat := v } | .tailPat => { c with tailPat := v }
  | .syncCfg => { c with syncCfg := v } | .headWin => { c with headWin := v }
  | .tailWin => { c with tailWin := v } | .escape => { c with escape := v }

/-- BITBUF[0..BITLEN), the bit stream (00_scope.md R16). -/
def Message.bits (m : Message) : List Bool := m.bitbuf.map Symbol.bit

/-- UNKBUF[0..BITLEN). -/
def Message.unks (m : Message) : List Bool := m.bitbuf.map Symbol.unk

/-- The value a read of a register returns (10_state.md R24–R57; 20_memory.md R78 for the write-only ones). -/
def regValue (r : Reg) (s : State) : Word :=
  match r with
  | .id => 0x47545A31
  | .version => 0x00010000
  | .paramWin => BitVec.ofNat 32 s.params.winMax
  | .paramBitbuf => BitVec.ofNat 32 s.params.bitbufDepth
  | .paramFifo => BitVec.ofNat 16 s.params.ofifoDepth ++ BitVec.ofNat 16 s.params.sfifoDepth
  | .cfg r => s.cfg.get r
  | .cmd => 0
  | .status => statusWord s
  | .events => s.events
  | .intEn => s.intEn
  | .sampleLo => 0
  | .sampleHi => 0
  | .sfifoLevel => BitVec.ofNat 32 s.msg.sfifo.length
  | .outData => s.msg.ofifo.headD 0
  | .outLevel => BitVec.ofNat 32 s.msg.ofifo.length
  | .sampleCount => s.msg.sampleCount
  | .symbolCount => BitVec.ofNat 32 s.msg.bitbuf.length
  | .dropCount => s.msg.dropCount
  | .unkCount => s.msg.unkCount
  | .bitlostCount => s.msg.bitlostCount
  | .lastPmarkLo => lowWord s.msg.lastPm
  | .lastPmarkHi => highWord s.msg.lastPm
  | .lastPspaceLo => lowWord s.msg.lastPs
  | .lastPspaceHi => highWord s.msg.lastPs
  | .peakAmpLo => lowWord s.msg.peak
  | .peakAmpHi => highWord s.msg.peak
  | .syncResult => s.msg.syncResult
  | .headPos => s.msg.headPos
  | .tailPos => s.msg.tailPos
  | .payloadStart => s.msg.payloadStart
  | .payloadEnd => s.msg.payloadEnd
  | .frameCount => s.msg.frameCount
  | .frameErrCount => s.msg.frameErrCount
  | .outTotal => s.msg.outTotal
  | .bitbufAddr => s.bitbufAddr
  | .bitbufData => bitWord s.msg.bits s.bitbufAddr
  | .bitbufUnk => bitWord s.msg.unks s.bitbufAddr

/-- Answer the transaction (30_encoding.md R100). -/
def State.respond (s : State) (resp : Resp) (rdata : Word) : State :=
  { s with responses := ⟨resp, rdata⟩ :: s.responses }

/-- A read without side effect (40_host_ops.md R146–R148, 20_memory.md R78). -/
def readReg (r : Reg) (s : State) : Host.Outcome State Fault Refusal :=
  .next (s.respond .ok (regValue r s))

/-- A write that the bus accepts, after its effect: OK, read data 0 (30_encoding.md R100). -/
def acknowledge (s : State) : Host.Outcome State Fault Refusal :=
  .next (s.respond .ok 0)

/-- A refused access: BUSERR, read data 0, no other change (20_memory.md R76, R77; 60_exceptions.md R274). -/
def refuseAccess (s : State) : Host.Outcome State Fault Refusal :=
  .next (s.respond .busErr 0)

/-- Clear the message state (10_state.md R67). -/
def State.clearMessage (s : State) : State := { s with msg := Message.clear }

/-- A write of an RWL register (40_host_ops.md R144): locked with LOCK_ERR while a message is open, else stored
through the register's mask. -/
def writeConfig (r : CfgReg) (data : Word) (s : State) : State :=
  if s.isOpen then s.raise .lockErr
  else { s with cfg := s.cfg.set r (data &&& cfgMask r) }

/-- The write-1-to-clear of EVENTS (40_host_ops.md R143). -/
def clearEvents (data : Word) (s : State) : State :=
  { s with events := s.events &&& ~~~(data &&& intEnMask) }

/-- Reset (70_reset_and_hazards.md R300), by the platform or by SOFT_RESET: one step, from any state. The
parameters are not state of the block (R302), and what is outside the block stays as it is. -/
def resetBlock (s : State) : State :=
  { State.reset with
    params := s.params, inbox := s.inbox, turns := s.turns, ticks := s.ticks, responses := s.responses }

end Sys2Proof.Machine
end

