-- ==== Sys2Proof/Machine/Commands.lean ====
section
/-! DEFINITION. The commands (40_host_ops.md R130–R137): writes of CMD, executed within the write. -/

namespace Sys2Proof.Machine

/-- `valid_config()`, V1 to V6 (40_host_ops.md R132), of a configuration in an instance with this WIN_MAX. -/
def validConfig (winMax : Nat) (c : ConfigRegs) : Bool :=
  c.baud != 0
    && c.markFreq != c.spaceFreq
    && decide (1 ≤ c.windowLen)
    && decide (c.windowLen ≤ winMax)
    && decide (1 ≤ c.headLen ∧ c.headLen ≤ Config.markerMax ∧ 1 ≤ c.tailLen ∧ c.tailLen ≤ Config.markerMax)
    && c.gateMode != .reserved

/-- START (40_host_ops.md R131). -/
def startMessage (s : State) : State :=
  if s.isOpen then s.raise .cmdErr
  else if validConfig s.params.winMax s.cfg then { s.clearMessage with state := .run }
  else { s.clearMessage with state := .error }.raise .cfgErr

/-- END (40_host_ops.md R133). -/
def endMessage (s : State) : State :=
  if s.state = .run then { s with state := .finish, msg := { s.msg with fphase := .drain } }
  else s.raise .cmdErr

/-- ABORT (40_host_ops.md R134). -/
def abortMessage (s : State) : State := { s.clearMessage with state := .idle }

/-- `cmd NOP` (40_host_ops.md R136). -/
def execCmdNop (s : State) : Host.Outcome State Fault Refusal :=
  acknowledge s

/-- `cmd START` (40_host_ops.md R131). -/
def execCmdStart (s : State) : Host.Outcome State Fault Refusal :=
  acknowledge (startMessage s)

/-- `cmd END` (40_host_ops.md R133). -/
def execCmdEnd (s : State) : Host.Outcome State Fault Refusal :=
  acknowledge (endMessage s)

/-- `cmd ABORT` (40_host_ops.md R134). -/
def execCmdAbort (s : State) : Host.Outcome State Fault Refusal :=
  acknowledge (abortMessage s)

/-- `cmd SOFT_RESET` (40_host_ops.md R135). -/
def execCmdSoftReset (s : State) : Host.Outcome State Fault Refusal :=
  acknowledge (resetBlock s)

/-- The reserved command: no effect but CMD_ERR (40_host_ops.md R130). -/
def execCmdReserved (_data : Word) (s : State) : Host.Outcome State Fault Refusal :=
  acknowledge (s.raise .cmdErr)

end Sys2Proof.Machine
end

