-- ==== Sys2Proof/Machine/ConfigWrites.lean ====
section
/-! DEFINITION. The configuration writes (40_host_ops.md R144): each goes through the lock (20_memory.md R84) and
the register's write mask (R80). No value is checked at the write. -/

namespace Sys2Proof.Machine

/-- `wr CTRL`: ctrl (40_host_ops.md R144). -/
def execWrCtrl (data : Word) (s : State) : Host.Outcome State Fault Refusal :=
  acknowledge (writeConfig .ctrl data s)

/-- `wr SAMPLE_RATE`: sampleRate (40_host_ops.md R144). -/
def execWrSampleRate (data : Word) (s : State) : Host.Outcome State Fault Refusal :=
  acknowledge (writeConfig .sampleRate data s)

/-- `wr BAUD`: baud (40_host_ops.md R144). -/
def execWrBaud (data : Word) (s : State) : Host.Outcome State Fault Refusal :=
  acknowledge (writeConfig .baud data s)

/-- `wr MARK_FREQ`: markFreq (40_host_ops.md R144). -/
def execWrMarkFreq (data : Word) (s : State) : Host.Outcome State Fault Refusal :=
  acknowledge (writeConfig .markFreq data s)

/-- `wr SPACE_FREQ`: spaceFreq (40_host_ops.md R144). -/
def execWrSpaceFreq (data : Word) (s : State) : Host.Outcome State Fault Refusal :=
  acknowledge (writeConfig .spaceFreq data s)

/-- `wr BIAS_LO`: biasLo (40_host_ops.md R144). -/
def execWrBiasLo (data : Word) (s : State) : Host.Outcome State Fault Refusal :=
  acknowledge (writeConfig .biasLo data s)

/-- `wr BIAS_HI`: biasHi (40_host_ops.md R144). -/
def execWrBiasHi (data : Word) (s : State) : Host.Outcome State Fault Refusal :=
  acknowledge (writeConfig .biasHi data s)

/-- `wr NOISE_FLOOR_LO`: noiseFloorLo (40_host_ops.md R144). -/
def execWrNoiseFloorLo (data : Word) (s : State) : Host.Outcome State Fault Refusal :=
  acknowledge (writeConfig .noiseFloorLo data s)

/-- `wr NOISE_FLOOR_HI`: noiseFloorHi (40_host_ops.md R144). -/
def execWrNoiseFloorHi (data : Word) (s : State) : Host.Outcome State Fault Refusal :=
  acknowledge (writeConfig .noiseFloorHi data s)

/-- `wr AMP_FLOOR_LO`: ampFloorLo (40_host_ops.md R144). -/
def execWrAmpFloorLo (data : Word) (s : State) : Host.Outcome State Fault Refusal :=
  acknowledge (writeConfig .ampFloorLo data s)

/-- `wr AMP_FLOOR_HI`: ampFloorHi (40_host_ops.md R144). -/
def execWrAmpFloorHi (data : Word) (s : State) : Host.Outcome State Fault Refusal :=
  acknowledge (writeConfig .ampFloorHi data s)

/-- `wr HEAD_PAT`: headPat (40_host_ops.md R144). -/
def execWrHeadPat (data : Word) (s : State) : Host.Outcome State Fault Refusal :=
  acknowledge (writeConfig .headPat data s)

/-- `wr TAIL_PAT`: tailPat (40_host_ops.md R144). -/
def execWrTailPat (data : Word) (s : State) : Host.Outcome State Fault Refusal :=
  acknowledge (writeConfig .tailPat data s)

/-- `wr SYNC_CFG`: syncCfg (40_host_ops.md R144). -/
def execWrSyncCfg (data : Word) (s : State) : Host.Outcome State Fault Refusal :=
  acknowledge (writeConfig .syncCfg data s)

/-- `wr HEAD_WIN`: headWin (40_host_ops.md R144). -/
def execWrHeadWin (data : Word) (s : State) : Host.Outcome State Fault Refusal :=
  acknowledge (writeConfig .headWin data s)

/-- `wr TAIL_WIN`: tailWin (40_host_ops.md R144). -/
def execWrTailWin (data : Word) (s : State) : Host.Outcome State Fault Refusal :=
  acknowledge (writeConfig .tailWin data s)

/-- `wr ESCAPE`: escape (40_host_ops.md R144). -/
def execWrEscape (data : Word) (s : State) : Host.Outcome State Fault Refusal :=
  acknowledge (writeConfig .escape data s)

end Sys2Proof.Machine
end

