-- ==== Sys2Proof/Machine/Reads.lean ====
section
/-! DEFINITION. The reads: the popping read of OUT_DATA (40_host_ops.md R142), the reads without side effect
(R146–R148), and the reads of the write-only registers, which return 0 (20_memory.md R78). -/

namespace Sys2Proof.Machine

/-- Remove the head entry of OFIFO, nothing where it is empty (40_host_ops.md R142). -/
def popOutput (s : State) : State := { s with msg := { s.msg with ofifo := s.msg.ofifo.tail } }

/-- `rd OUT_DATA`: the head entry of OFIFO, which is removed, or 0 (40_host_ops.md R142). -/
def execRdOutData (s : State) : Host.Outcome State Fault Refusal :=
  .next ((popOutput s).respond .ok (regValue .outData s))

/-- `rd ID` (40_host_ops.md R146). -/
def execRdId (s : State) : Host.Outcome State Fault Refusal :=
  readReg .id s

/-- `rd VERSION` (40_host_ops.md R146). -/
def execRdVersion (s : State) : Host.Outcome State Fault Refusal :=
  readReg .version s

/-- `rd PARAM_WIN` (40_host_ops.md R146). -/
def execRdParamWin (s : State) : Host.Outcome State Fault Refusal :=
  readReg .paramWin s

/-- `rd PARAM_BITBUF` (40_host_ops.md R146). -/
def execRdParamBitbuf (s : State) : Host.Outcome State Fault Refusal :=
  readReg .paramBitbuf s

/-- `rd PARAM_FIFO` (40_host_ops.md R146). -/
def execRdParamFifo (s : State) : Host.Outcome State Fault Refusal :=
  readReg .paramFifo s

/-- `rd CTRL` (40_host_ops.md R146). -/
def execRdCtrl (s : State) : Host.Outcome State Fault Refusal :=
  readReg (.cfg .ctrl) s

/-- `rd CMD (returns 0)` (20_memory.md R78). -/
def execRdCmdReturns0 (s : State) : Host.Outcome State Fault Refusal :=
  readReg .cmd s

/-- `rd STATUS` (40_host_ops.md R148). -/
def execRdStatus (s : State) : Host.Outcome State Fault Refusal :=
  readReg .status s

/-- `rd EVENTS` (40_host_ops.md R146). -/
def execRdEvents (s : State) : Host.Outcome State Fault Refusal :=
  readReg .events s

/-- `rd INT_EN` (40_host_ops.md R146). -/
def execRdIntEn (s : State) : Host.Outcome State Fault Refusal :=
  readReg .intEn s

/-- `rd SAMPLE_RATE` (40_host_ops.md R146). -/
def execRdSampleRate (s : State) : Host.Outcome State Fault Refusal :=
  readReg (.cfg .sampleRate) s

/-- `rd BAUD` (40_host_ops.md R146). -/
def execRdBaud (s : State) : Host.Outcome State Fault Refusal :=
  readReg (.cfg .baud) s

/-- `rd MARK_FREQ` (40_host_ops.md R146). -/
def execRdMarkFreq (s : State) : Host.Outcome State Fault Refusal :=
  readReg (.cfg .markFreq) s

/-- `rd SPACE_FREQ` (40_host_ops.md R146). -/
def execRdSpaceFreq (s : State) : Host.Outcome State Fault Refusal :=
  readReg (.cfg .spaceFreq) s

/-- `rd BIAS_LO` (40_host_ops.md R146). -/
def execRdBiasLo (s : State) : Host.Outcome State Fault Refusal :=
  readReg (.cfg .biasLo) s

/-- `rd BIAS_HI` (40_host_ops.md R146). -/
def execRdBiasHi (s : State) : Host.Outcome State Fault Refusal :=
  readReg (.cfg .biasHi) s

/-- `rd NOISE_FLOOR_LO` (40_host_ops.md R146). -/
def execRdNoiseFloorLo (s : State) : Host.Outcome State Fault Refusal :=
  readReg (.cfg .noiseFloorLo) s

/-- `rd NOISE_FLOOR_HI` (40_host_ops.md R146). -/
def execRdNoiseFloorHi (s : State) : Host.Outcome State Fault Refusal :=
  readReg (.cfg .noiseFloorHi) s

/-- `rd AMP_FLOOR_LO` (40_host_ops.md R146). -/
def execRdAmpFloorLo (s : State) : Host.Outcome State Fault Refusal :=
  readReg (.cfg .ampFloorLo) s

/-- `rd AMP_FLOOR_HI` (40_host_ops.md R146). -/
def execRdAmpFloorHi (s : State) : Host.Outcome State Fault Refusal :=
  readReg (.cfg .ampFloorHi) s

/-- `rd HEAD_PAT` (40_host_ops.md R146). -/
def execRdHeadPat (s : State) : Host.Outcome State Fault Refusal :=
  readReg (.cfg .headPat) s

/-- `rd TAIL_PAT` (40_host_ops.md R146). -/
def execRdTailPat (s : State) : Host.Outcome State Fault Refusal :=
  readReg (.cfg .tailPat) s

/-- `rd SYNC_CFG` (40_host_ops.md R146). -/
def execRdSyncCfg (s : State) : Host.Outcome State Fault Refusal :=
  readReg (.cfg .syncCfg) s

/-- `rd HEAD_WIN` (40_host_ops.md R146). -/
def execRdHeadWin (s : State) : Host.Outcome State Fault Refusal :=
  readReg (.cfg .headWin) s

/-- `rd TAIL_WIN` (40_host_ops.md R146). -/
def execRdTailWin (s : State) : Host.Outcome State Fault Refusal :=
  readReg (.cfg .tailWin) s

/-- `rd ESCAPE` (40_host_ops.md R146). -/
def execRdEscape (s : State) : Host.Outcome State Fault Refusal :=
  readReg (.cfg .escape) s

/-- `rd SAMPLE_LO (returns 0)` (20_memory.md R78). -/
def execRdSampleLoReturns0 (s : State) : Host.Outcome State Fault Refusal :=
  readReg .sampleLo s

/-- `rd SAMPLE_HI (returns 0)` (20_memory.md R78). -/
def execRdSampleHiReturns0 (s : State) : Host.Outcome State Fault Refusal :=
  readReg .sampleHi s

/-- `rd SFIFO_LEVEL` (40_host_ops.md R146). -/
def execRdSfifoLevel (s : State) : Host.Outcome State Fault Refusal :=
  readReg .sfifoLevel s

/-- `rd OUT_LEVEL` (40_host_ops.md R146). -/
def execRdOutLevel (s : State) : Host.Outcome State Fault Refusal :=
  readReg .outLevel s

/-- `rd SAMPLE_COUNT` (40_host_ops.md R146). -/
def execRdSampleCount (s : State) : Host.Outcome State Fault Refusal :=
  readReg .sampleCount s

/-- `rd SYMBOL_COUNT` (40_host_ops.md R146). -/
def execRdSymbolCount (s : State) : Host.Outcome State Fault Refusal :=
  readReg .symbolCount s

/-- `rd DROP_COUNT` (40_host_ops.md R146). -/
def execRdDropCount (s : State) : Host.Outcome State Fault Refusal :=
  readReg .dropCount s

/-- `rd UNK_COUNT` (40_host_ops.md R146). -/
def execRdUnkCount (s : State) : Host.Outcome State Fault Refusal :=
  readReg .unkCount s

/-- `rd BITLOST_COUNT` (40_host_ops.md R146). -/
def execRdBitlostCount (s : State) : Host.Outcome State Fault Refusal :=
  readReg .bitlostCount s

/-- `rd LAST_PMARK_LO` (40_host_ops.md R146). -/
def execRdLastPmarkLo (s : State) : Host.Outcome State Fault Refusal :=
  readReg .lastPmarkLo s

/-- `rd LAST_PMARK_HI` (40_host_ops.md R146). -/
def execRdLastPmarkHi (s : State) : Host.Outcome State Fault Refusal :=
  readReg .lastPmarkHi s

/-- `rd LAST_PSPACE_LO` (40_host_ops.md R146). -/
def execRdLastPspaceLo (s : State) : Host.Outcome State Fault Refusal :=
  readReg .lastPspaceLo s

/-- `rd LAST_PSPACE_HI` (40_host_ops.md R146). -/
def execRdLastPspaceHi (s : State) : Host.Outcome State Fault Refusal :=
  readReg .lastPspaceHi s

/-- `rd PEAK_AMP_LO` (40_host_ops.md R146). -/
def execRdPeakAmpLo (s : State) : Host.Outcome State Fault Refusal :=
  readReg .peakAmpLo s

/-- `rd PEAK_AMP_HI` (40_host_ops.md R146). -/
def execRdPeakAmpHi (s : State) : Host.Outcome State Fault Refusal :=
  readReg .peakAmpHi s

/-- `rd SYNC_RESULT` (40_host_ops.md R146). -/
def execRdSyncResult (s : State) : Host.Outcome State Fault Refusal :=
  readReg .syncResult s

/-- `rd HEAD_POS` (40_host_ops.md R146). -/
def execRdHeadPos (s : State) : Host.Outcome State Fault Refusal :=
  readReg .headPos s

/-- `rd TAIL_POS` (40_host_ops.md R146). -/
def execRdTailPos (s : State) : Host.Outcome State Fault Refusal :=
  readReg .tailPos s

/-- `rd PAYLOAD_START` (40_host_ops.md R146). -/
def execRdPayloadStart (s : State) : Host.Outcome State Fault Refusal :=
  readReg .payloadStart s

/-- `rd PAYLOAD_END` (40_host_ops.md R146). -/
def execRdPayloadEnd (s : State) : Host.Outcome State Fault Refusal :=
  readReg .payloadEnd s

/-- `rd FRAME_COUNT` (40_host_ops.md R146). -/
def execRdFrameCount (s : State) : Host.Outcome State Fault Refusal :=
  readReg .frameCount s

/-- `rd FRAME_ERR_COUNT` (40_host_ops.md R146). -/
def execRdFrameErrCount (s : State) : Host.Outcome State Fault Refusal :=
  readReg .frameErrCount s

/-- `rd OUT_TOTAL` (40_host_ops.md R146). -/
def execRdOutTotal (s : State) : Host.Outcome State Fault Refusal :=
  readReg .outTotal s

/-- `rd BITBUF_ADDR` (40_host_ops.md R146). -/
def execRdBitbufAddr (s : State) : Host.Outcome State Fault Refusal :=
  readReg .bitbufAddr s

/-- `rd BITBUF_DATA` (40_host_ops.md R147). -/
def execRdBitbufData (s : State) : Host.Outcome State Fault Refusal :=
  readReg .bitbufData s

/-- `rd BITBUF_UNK` (40_host_ops.md R147). -/
def execRdBitbufUnk (s : State) : Host.Outcome State Fault Refusal :=
  readReg .bitbufUnk s

end Sys2Proof.Machine
end

