-- ==== Sys2Proof/Machine/Refused.lean ====
section
/-! DEFINITION. The refused accesses: writes of RO and RP registers (20_memory.md R76) and any access to a reserved
offset (R77). Each is answered with BUSERR and changes nothing; no event is raised (60_exceptions.md R274). -/

namespace Sys2Proof.Machine

/-- `wr ID (refused)` (20_memory.md R76). -/
def execWrIdRefused (_data : Word) (s : State) : Host.Outcome State Fault Refusal :=
  refuseAccess s

/-- `wr VERSION (refused)` (20_memory.md R76). -/
def execWrVersionRefused (_data : Word) (s : State) : Host.Outcome State Fault Refusal :=
  refuseAccess s

/-- `wr PARAM_WIN (refused)` (20_memory.md R76). -/
def execWrParamWinRefused (_data : Word) (s : State) : Host.Outcome State Fault Refusal :=
  refuseAccess s

/-- `wr PARAM_BITBUF (refused)` (20_memory.md R76). -/
def execWrParamBitbufRefused (_data : Word) (s : State) : Host.Outcome State Fault Refusal :=
  refuseAccess s

/-- `wr PARAM_FIFO (refused)` (20_memory.md R76). -/
def execWrParamFifoRefused (_data : Word) (s : State) : Host.Outcome State Fault Refusal :=
  refuseAccess s

/-- `wr STATUS (refused)` (20_memory.md R76). -/
def execWrStatusRefused (_data : Word) (s : State) : Host.Outcome State Fault Refusal :=
  refuseAccess s

/-- `wr SFIFO_LEVEL (refused)` (20_memory.md R76). -/
def execWrSfifoLevelRefused (_data : Word) (s : State) : Host.Outcome State Fault Refusal :=
  refuseAccess s

/-- `wr OUT_DATA (refused)` (20_memory.md R76). -/
def execWrOutDataRefused (_data : Word) (s : State) : Host.Outcome State Fault Refusal :=
  refuseAccess s

/-- `wr OUT_LEVEL (refused)` (20_memory.md R76). -/
def execWrOutLevelRefused (_data : Word) (s : State) : Host.Outcome State Fault Refusal :=
  refuseAccess s

/-- `wr SAMPLE_COUNT (refused)` (20_memory.md R76). -/
def execWrSampleCountRefused (_data : Word) (s : State) : Host.Outcome State Fault Refusal :=
  refuseAccess s

/-- `wr SYMBOL_COUNT (refused)` (20_memory.md R76). -/
def execWrSymbolCountRefused (_data : Word) (s : State) : Host.Outcome State Fault Refusal :=
  refuseAccess s

/-- `wr DROP_COUNT (refused)` (20_memory.md R76). -/
def execWrDropCountRefused (_data : Word) (s : State) : Host.Outcome State Fault Refusal :=
  refuseAccess s

/-- `wr UNK_COUNT (refused)` (20_memory.md R76). -/
def execWrUnkCountRefused (_data : Word) (s : State) : Host.Outcome State Fault Refusal :=
  refuseAccess s

/-- `wr BITLOST_COUNT (refused)` (20_memory.md R76). -/
def execWrBitlostCountRefused (_data : Word) (s : State) : Host.Outcome State Fault Refusal :=
  refuseAccess s

/-- `wr LAST_PMARK_LO (refused)` (20_memory.md R76). -/
def execWrLastPmarkLoRefused (_data : Word) (s : State) : Host.Outcome State Fault Refusal :=
  refuseAccess s

/-- `wr LAST_PMARK_HI (refused)` (20_memory.md R76). -/
def execWrLastPmarkHiRefused (_data : Word) (s : State) : Host.Outcome State Fault Refusal :=
  refuseAccess s

/-- `wr LAST_PSPACE_LO (refused)` (20_memory.md R76). -/
def execWrLastPspaceLoRefused (_data : Word) (s : State) : Host.Outcome State Fault Refusal :=
  refuseAccess s

/-- `wr LAST_PSPACE_HI (refused)` (20_memory.md R76). -/
def execWrLastPspaceHiRefused (_data : Word) (s : State) : Host.Outcome State Fault Refusal :=
  refuseAccess s

/-- `wr PEAK_AMP_LO (refused)` (20_memory.md R76). -/
def execWrPeakAmpLoRefused (_data : Word) (s : State) : Host.Outcome State Fault Refusal :=
  refuseAccess s

/-- `wr PEAK_AMP_HI (refused)` (20_memory.md R76). -/
def execWrPeakAmpHiRefused (_data : Word) (s : State) : Host.Outcome State Fault Refusal :=
  refuseAccess s

/-- `wr SYNC_RESULT (refused)` (20_memory.md R76). -/
def execWrSyncResultRefused (_data : Word) (s : State) : Host.Outcome State Fault Refusal :=
  refuseAccess s

/-- `wr HEAD_POS (refused)` (20_memory.md R76). -/
def execWrHeadPosRefused (_data : Word) (s : State) : Host.Outcome State Fault Refusal :=
  refuseAccess s

/-- `wr TAIL_POS (refused)` (20_memory.md R76). -/
def execWrTailPosRefused (_data : Word) (s : State) : Host.Outcome State Fault Refusal :=
  refuseAccess s

/-- `wr PAYLOAD_START (refused)` (20_memory.md R76). -/
def execWrPayloadStartRefused (_data : Word) (s : State) : Host.Outcome State Fault Refusal :=
  refuseAccess s

/-- `wr PAYLOAD_END (refused)` (20_memory.md R76). -/
def execWrPayloadEndRefused (_data : Word) (s : State) : Host.Outcome State Fault Refusal :=
  refuseAccess s

/-- `wr FRAME_COUNT (refused)` (20_memory.md R76). -/
def execWrFrameCountRefused (_data : Word) (s : State) : Host.Outcome State Fault Refusal :=
  refuseAccess s

/-- `wr FRAME_ERR_COUNT (refused)` (20_memory.md R76). -/
def execWrFrameErrCountRefused (_data : Word) (s : State) : Host.Outcome State Fault Refusal :=
  refuseAccess s

/-- `wr OUT_TOTAL (refused)` (20_memory.md R76). -/
def execWrOutTotalRefused (_data : Word) (s : State) : Host.Outcome State Fault Refusal :=
  refuseAccess s

/-- `wr BITBUF_DATA (refused)` (20_memory.md R76). -/
def execWrBitbufDataRefused (_data : Word) (s : State) : Host.Outcome State Fault Refusal :=
  refuseAccess s

/-- `wr BITBUF_UNK (refused)` (20_memory.md R76). -/
def execWrBitbufUnkRefused (_data : Word) (s : State) : Host.Outcome State Fault Refusal :=
  refuseAccess s

/-- `wr RESERVED_D4 (refused)` (20_memory.md R77). -/
def execWrReservedD4Refused (_data : Word) (s : State) : Host.Outcome State Fault Refusal :=
  refuseAccess s

/-- `rd RESERVED_D4 (refused)` (20_memory.md R77). -/
def execRdReservedD4Refused (s : State) : Host.Outcome State Fault Refusal :=
  refuseAccess s

/-- `wr RESERVED_D8 (refused)` (20_memory.md R77). -/
def execWrReservedD8Refused (_data : Word) (s : State) : Host.Outcome State Fault Refusal :=
  refuseAccess s

/-- `rd RESERVED_D8 (refused)` (20_memory.md R77). -/
def execRdReservedD8Refused (s : State) : Host.Outcome State Fault Refusal :=
  refuseAccess s

/-- `wr RESERVED_DC (refused)` (20_memory.md R77). -/
def execWrReservedDcRefused (_data : Word) (s : State) : Host.Outcome State Fault Refusal :=
  refuseAccess s

/-- `rd RESERVED_DC (refused)` (20_memory.md R77). -/
def execRdReservedDcRefused (s : State) : Host.Outcome State Fault Refusal :=
  refuseAccess s

/-- `wr RESERVED_E0 (refused)` (20_memory.md R77). -/
def execWrReservedE0Refused (_data : Word) (s : State) : Host.Outcome State Fault Refusal :=
  refuseAccess s

/-- `rd RESERVED_E0 (refused)` (20_memory.md R77). -/
def execRdReservedE0Refused (s : State) : Host.Outcome State Fault Refusal :=
  refuseAccess s

/-- `wr RESERVED_E4 (refused)` (20_memory.md R77). -/
def execWrReservedE4Refused (_data : Word) (s : State) : Host.Outcome State Fault Refusal :=
  refuseAccess s

/-- `rd RESERVED_E4 (refused)` (20_memory.md R77). -/
def execRdReservedE4Refused (s : State) : Host.Outcome State Fault Refusal :=
  refuseAccess s

/-- `wr RESERVED_E8 (refused)` (20_memory.md R77). -/
def execWrReservedE8Refused (_data : Word) (s : State) : Host.Outcome State Fault Refusal :=
  refuseAccess s

/-- `rd RESERVED_E8 (refused)` (20_memory.md R77). -/
def execRdReservedE8Refused (s : State) : Host.Outcome State Fault Refusal :=
  refuseAccess s

/-- `wr RESERVED_EC (refused)` (20_memory.md R77). -/
def execWrReservedEcRefused (_data : Word) (s : State) : Host.Outcome State Fault Refusal :=
  refuseAccess s

/-- `rd RESERVED_EC (refused)` (20_memory.md R77). -/
def execRdReservedEcRefused (s : State) : Host.Outcome State Fault Refusal :=
  refuseAccess s

/-- `wr RESERVED_F0 (refused)` (20_memory.md R77). -/
def execWrReservedF0Refused (_data : Word) (s : State) : Host.Outcome State Fault Refusal :=
  refuseAccess s

/-- `rd RESERVED_F0 (refused)` (20_memory.md R77). -/
def execRdReservedF0Refused (s : State) : Host.Outcome State Fault Refusal :=
  refuseAccess s

/-- `wr RESERVED_F4 (refused)` (20_memory.md R77). -/
def execWrReservedF4Refused (_data : Word) (s : State) : Host.Outcome State Fault Refusal :=
  refuseAccess s

/-- `rd RESERVED_F4 (refused)` (20_memory.md R77). -/
def execRdReservedF4Refused (s : State) : Host.Outcome State Fault Refusal :=
  refuseAccess s

/-- `wr RESERVED_F8 (refused)` (20_memory.md R77). -/
def execWrReservedF8Refused (_data : Word) (s : State) : Host.Outcome State Fault Refusal :=
  refuseAccess s

/-- `rd RESERVED_F8 (refused)` (20_memory.md R77). -/
def execRdReservedF8Refused (s : State) : Host.Outcome State Fault Refusal :=
  refuseAccess s

/-- `wr RESERVED_FC (refused)` (20_memory.md R77). -/
def execWrReservedFcRefused (_data : Word) (s : State) : Host.Outcome State Fault Refusal :=
  refuseAccess s

/-- `rd RESERVED_FC (refused)` (20_memory.md R77). -/
def execRdReservedFcRefused (s : State) : Host.Outcome State Fault Refusal :=
  refuseAccess s

end Sys2Proof.Machine
end

