-- ==== Sys2Proof/Machine/Samples.lean ====
section
/-! DEFINITION. The writes that are neither commands nor configuration: the sample registers (40_host_ops.md R140,
R141), EVENTS (R143), INT_EN and BITBUF_ADDR (R145). -/

namespace Sys2Proof.Machine

/-- Offer a sample to SFIFO (40_host_ops.md R140): the checks run in this order, and a sample that is refused is
never tested for being finite. -/
def offerSample (x : F64) (s : State) : State :=
  if s.state ≠ .run then s.raise .pushErr
  else if s.msg.sfifo.length = s.params.sfifoDepth then s.raise .sampleOvf
  else
    let t := if isNaN x || isInf x then s.raise .nonfinite else s
    { t with msg := { t.msg with sfifo := t.msg.sfifo ++ [x], sampleCount := t.msg.sampleCount + 1 } }

/-- `wr SAMPLE_LO` (40_host_ops.md R141). -/
def execWrSampleLo (data : Word) (s : State) : Host.Outcome State Fault Refusal :=
  acknowledge { s with loLatch := data }

/-- `wr SAMPLE_HI` (40_host_ops.md R140). -/
def execWrSampleHi (data : Word) (s : State) : Host.Outcome State Fault Refusal :=
  acknowledge (offerSample (pushedSample data s.loLatch) s)

/-- `wr EVENTS` (40_host_ops.md R143). -/
def execWrEvents (data : Word) (s : State) : Host.Outcome State Fault Refusal :=
  acknowledge (clearEvents data s)

/-- `wr INT_EN` (40_host_ops.md R145). -/
def execWrIntEn (data : Word) (s : State) : Host.Outcome State Fault Refusal :=
  acknowledge { s with intEn := data &&& intEnMask }

/-- `wr BITBUF_ADDR` (40_host_ops.md R145). -/
def execWrBitbufAddr (data : Word) (s : State) : Host.Outcome State Fault Refusal :=
  acknowledge { s with bitbufAddr := data }

end Sys2Proof.Machine
end

