-- ==== Sys2Proof/Machine/Dispatch.lean ====
section
/-! DEFINITION. The meaning of every instruction, one arm per row of the opcode table. -/

namespace Sys2Proof.Machine

def exec (i : Instr) (s : State) : Host.Outcome State Fault Refusal :=
  match i with
  | .wrIdRefused data => Sys2Proof.Machine.execWrIdRefused data s
  | .rdId => Sys2Proof.Machine.execRdId s
  | .wrVersionRefused data => Sys2Proof.Machine.execWrVersionRefused data s
  | .rdVersion => Sys2Proof.Machine.execRdVersion s
  | .wrParamWinRefused data => Sys2Proof.Machine.execWrParamWinRefused data s
  | .rdParamWin => Sys2Proof.Machine.execRdParamWin s
  | .wrParamBitbufRefused data => Sys2Proof.Machine.execWrParamBitbufRefused data s
  | .rdParamBitbuf => Sys2Proof.Machine.execRdParamBitbuf s
  | .wrParamFifoRefused data => Sys2Proof.Machine.execWrParamFifoRefused data s
  | .rdParamFifo => Sys2Proof.Machine.execRdParamFifo s
  | .wrCtrl data => Sys2Proof.Machine.execWrCtrl data s
  | .rdCtrl => Sys2Proof.Machine.execRdCtrl s
  | .cmdNop => Sys2Proof.Machine.execCmdNop s
  | .cmdStart => Sys2Proof.Machine.execCmdStart s
  | .cmdEnd => Sys2Proof.Machine.execCmdEnd s
  | .cmdAbort => Sys2Proof.Machine.execCmdAbort s
  | .cmdSoftReset => Sys2Proof.Machine.execCmdSoftReset s
  | .cmdReserved data => Sys2Proof.Machine.execCmdReserved data s
  | .rdCmdReturns0 => Sys2Proof.Machine.execRdCmdReturns0 s
  | .wrStatusRefused data => Sys2Proof.Machine.execWrStatusRefused data s
  | .rdStatus => Sys2Proof.Machine.execRdStatus s
  | .wrEvents data => Sys2Proof.Machine.execWrEvents data s
  | .rdEvents => Sys2Proof.Machine.execRdEvents s
  | .wrIntEn data => Sys2Proof.Machine.execWrIntEn data s
  | .rdIntEn => Sys2Proof.Machine.execRdIntEn s
  | .wrSampleRate data => Sys2Proof.Machine.execWrSampleRate data s
  | .rdSampleRate => Sys2Proof.Machine.execRdSampleRate s
  | .wrBaud data => Sys2Proof.Machine.execWrBaud data s
  | .rdBaud => Sys2Proof.Machine.execRdBaud s
  | .wrMarkFreq data => Sys2Proof.Machine.execWrMarkFreq data s
  | .rdMarkFreq => Sys2Proof.Machine.execRdMarkFreq s
  | .wrSpaceFreq data => Sys2Proof.Machine.execWrSpaceFreq data s
  | .rdSpaceFreq => Sys2Proof.Machine.execRdSpaceFreq s
  | .wrBiasLo data => Sys2Proof.Machine.execWrBiasLo data s
  | .rdBiasLo => Sys2Proof.Machine.execRdBiasLo s
  | .wrBiasHi data => Sys2Proof.Machine.execWrBiasHi data s
  | .rdBiasHi => Sys2Proof.Machine.execRdBiasHi s
  | .wrNoiseFloorLo data => Sys2Proof.Machine.execWrNoiseFloorLo data s
  | .rdNoiseFloorLo => Sys2Proof.Machine.execRdNoiseFloorLo s
  | .wrNoiseFloorHi data => Sys2Proof.Machine.execWrNoiseFloorHi data s
  | .rdNoiseFloorHi => Sys2Proof.Machine.execRdNoiseFloorHi s
  | .wrAmpFloorLo data => Sys2Proof.Machine.execWrAmpFloorLo data s
  | .rdAmpFloorLo => Sys2Proof.Machine.execRdAmpFloorLo s
  | .wrAmpFloorHi data => Sys2Proof.Machine.execWrAmpFloorHi data s
  | .rdAmpFloorHi => Sys2Proof.Machine.execRdAmpFloorHi s
  | .wrHeadPat data => Sys2Proof.Machine.execWrHeadPat data s
  | .rdHeadPat => Sys2Proof.Machine.execRdHeadPat s
  | .wrTailPat data => Sys2Proof.Machine.execWrTailPat data s
  | .rdTailPat => Sys2Proof.Machine.execRdTailPat s
  | .wrSyncCfg data => Sys2Proof.Machine.execWrSyncCfg data s
  | .rdSyncCfg => Sys2Proof.Machine.execRdSyncCfg s
  | .wrHeadWin data => Sys2Proof.Machine.execWrHeadWin data s
  | .rdHeadWin => Sys2Proof.Machine.execRdHeadWin s
  | .wrTailWin data => Sys2Proof.Machine.execWrTailWin data s
  | .rdTailWin => Sys2Proof.Machine.execRdTailWin s
  | .wrEscape data => Sys2Proof.Machine.execWrEscape data s
  | .rdEscape => Sys2Proof.Machine.execRdEscape s
  | .wrSampleLo data => Sys2Proof.Machine.execWrSampleLo data s
  | .rdSampleLoReturns0 => Sys2Proof.Machine.execRdSampleLoReturns0 s
  | .wrSampleHi data => Sys2Proof.Machine.execWrSampleHi data s
  | .rdSampleHiReturns0 => Sys2Proof.Machine.execRdSampleHiReturns0 s
  | .wrSfifoLevelRefused data => Sys2Proof.Machine.execWrSfifoLevelRefused data s
  | .rdSfifoLevel => Sys2Proof.Machine.execRdSfifoLevel s
  | .wrOutDataRefused data => Sys2Proof.Machine.execWrOutDataRefused data s
  | .rdOutData => Sys2Proof.Machine.execRdOutData s
  | .wrOutLevelRefused data => Sys2Proof.Machine.execWrOutLevelRefused data s
  | .rdOutLevel => Sys2Proof.Machine.execRdOutLevel s
  | .wrSampleCountRefused data => Sys2Proof.Machine.execWrSampleCountRefused data s
  | .rdSampleCount => Sys2Proof.Machine.execRdSampleCount s
  | .wrSymbolCountRefused data => Sys2Proof.Machine.execWrSymbolCountRefused data s
  | .rdSymbolCount => Sys2Proof.Machine.execRdSymbolCount s
  | .wrDropCountRefused data => Sys2Proof.Machine.execWrDropCountRefused data s
  | .rdDropCount => Sys2Proof.Machine.execRdDropCount s
  | .wrUnkCountRefused data => Sys2Proof.Machine.execWrUnkCountRefused data s
  | .rdUnkCount => Sys2Proof.Machine.execRdUnkCount s
  | .wrBitlostCountRefused data => Sys2Proof.Machine.execWrBitlostCountRefused data s
  | .rdBitlostCount => Sys2Proof.Machine.execRdBitlostCount s
  | .wrLastPmarkLoRefused data => Sys2Proof.Machine.execWrLastPmarkLoRefused data s
  | .rdLastPmarkLo => Sys2Proof.Machine.execRdLastPmarkLo s
  | .wrLastPmarkHiRefused data => Sys2Proof.Machine.execWrLastPmarkHiRefused data s
  | .rdLastPmarkHi => Sys2Proof.Machine.execRdLastPmarkHi s
  | .wrLastPspaceLoRefused data => Sys2Proof.Machine.execWrLastPspaceLoRefused data s
  | .rdLastPspaceLo => Sys2Proof.Machine.execRdLastPspaceLo s
  | .wrLastPspaceHiRefused data => Sys2Proof.Machine.execWrLastPspaceHiRefused data s
  | .rdLastPspaceHi => Sys2Proof.Machine.execRdLastPspaceHi s
  | .wrPeakAmpLoRefused data => Sys2Proof.Machine.execWrPeakAmpLoRefused data s
  | .rdPeakAmpLo => Sys2Proof.Machine.execRdPeakAmpLo s
  | .wrPeakAmpHiRefused data => Sys2Proof.Machine.execWrPeakAmpHiRefused data s
  | .rdPeakAmpHi => Sys2Proof.Machine.execRdPeakAmpHi s
  | .wrSyncResultRefused data => Sys2Proof.Machine.execWrSyncResultRefused data s
  | .rdSyncResult => Sys2Proof.Machine.execRdSyncResult s
  | .wrHeadPosRefused data => Sys2Proof.Machine.execWrHeadPosRefused data s
  | .rdHeadPos => Sys2Proof.Machine.execRdHeadPos s
  | .wrTailPosRefused data => Sys2Proof.Machine.execWrTailPosRefused data s
  | .rdTailPos => Sys2Proof.Machine.execRdTailPos s
  | .wrPayloadStartRefused data => Sys2Proof.Machine.execWrPayloadStartRefused data s
  | .rdPayloadStart => Sys2Proof.Machine.execRdPayloadStart s
  | .wrPayloadEndRefused data => Sys2Proof.Machine.execWrPayloadEndRefused data s
  | .rdPayloadEnd => Sys2Proof.Machine.execRdPayloadEnd s
  | .wrFrameCountRefused data => Sys2Proof.Machine.execWrFrameCountRefused data s
  | .rdFrameCount => Sys2Proof.Machine.execRdFrameCount s
  | .wrFrameErrCountRefused data => Sys2Proof.Machine.execWrFrameErrCountRefused data s
  | .rdFrameErrCount => Sys2Proof.Machine.execRdFrameErrCount s
  | .wrOutTotalRefused data => Sys2Proof.Machine.execWrOutTotalRefused data s
  | .rdOutTotal => Sys2Proof.Machine.execRdOutTotal s
  | .wrBitbufAddr data => Sys2Proof.Machine.execWrBitbufAddr data s
  | .rdBitbufAddr => Sys2Proof.Machine.execRdBitbufAddr s
  | .wrBitbufDataRefused data => Sys2Proof.Machine.execWrBitbufDataRefused data s
  | .rdBitbufData => Sys2Proof.Machine.execRdBitbufData s
  | .wrBitbufUnkRefused data => Sys2Proof.Machine.execWrBitbufUnkRefused data s
  | .rdBitbufUnk => Sys2Proof.Machine.execRdBitbufUnk s
  | .wrReservedD4Refused data => Sys2Proof.Machine.execWrReservedD4Refused data s
  | .rdReservedD4Refused => Sys2Proof.Machine.execRdReservedD4Refused s
  | .wrReservedD8Refused data => Sys2Proof.Machine.execWrReservedD8Refused data s
  | .rdReservedD8Refused => Sys2Proof.Machine.execRdReservedD8Refused s
  | .wrReservedDcRefused data => Sys2Proof.Machine.execWrReservedDcRefused data s
  | .rdReservedDcRefused => Sys2Proof.Machine.execRdReservedDcRefused s
  | .wrReservedE0Refused data => Sys2Proof.Machine.execWrReservedE0Refused data s
  | .rdReservedE0Refused => Sys2Proof.Machine.execRdReservedE0Refused s
  | .wrReservedE4Refused data => Sys2Proof.Machine.execWrReservedE4Refused data s
  | .rdReservedE4Refused => Sys2Proof.Machine.execRdReservedE4Refused s
  | .wrReservedE8Refused data => Sys2Proof.Machine.execWrReservedE8Refused data s
  | .rdReservedE8Refused => Sys2Proof.Machine.execRdReservedE8Refused s
  | .wrReservedEcRefused data => Sys2Proof.Machine.execWrReservedEcRefused data s
  | .rdReservedEcRefused => Sys2Proof.Machine.execRdReservedEcRefused s
  | .wrReservedF0Refused data => Sys2Proof.Machine.execWrReservedF0Refused data s
  | .rdReservedF0Refused => Sys2Proof.Machine.execRdReservedF0Refused s
  | .wrReservedF4Refused data => Sys2Proof.Machine.execWrReservedF4Refused data s
  | .rdReservedF4Refused => Sys2Proof.Machine.execRdReservedF4Refused s
  | .wrReservedF8Refused data => Sys2Proof.Machine.execWrReservedF8Refused data s
  | .rdReservedF8Refused => Sys2Proof.Machine.execRdReservedF8Refused s
  | .wrReservedFcRefused data => Sys2Proof.Machine.execWrReservedFcRefused data s
  | .rdReservedFcRefused => Sys2Proof.Machine.execRdReservedFcRefused s

end Sys2Proof.Machine
end

