-- ==== Sys2Proof/Machine/Framer.lean ====
section
/-! DEFINITION. The UART-style byte framer (44_byte_framer.md R230–R236). -/

namespace Sys2Proof.Machine

/-- `assemble(data, order)` (44_byte_framer.md R232). -/
def assemble (data : List Bool) : BitOrder → Byte
  | .lsbFirst => BitVec.ofNat 8 (bitsValue data)
  | .msbFirst => BitVec.ofNat 8 (bitsValue data.reverse)

/-- What the framer returns: the bytes, the accepted frames, the slips (44_byte_framer.md R231). -/
structure Framed where
  bytes : List Byte
  acc : Nat
  rej : Nat
deriving DecidableEq, Repr

/-- The framing state machine (44_byte_framer.md R231) over the bits from the scan position on, where the next
`skip` bits belong to a frame already accepted. The range check comes first: the stop bit of a frame that starts
here is the 10th bit. -/
def frameScan (order : BitOrder) : (b : List Bool) → (skip : Nat) → Framed
  | [], _ => ⟨[], 0, 0⟩
  | _ :: rest, skip + 1 => frameScan order rest skip
  | start :: rest, 0 =>
    match rest[8]? with
    | none => ⟨[], 0, 0⟩
    | some stop =>
      if start then frameScan order rest 0
      else if stop then
        let f := frameScan order rest 9
        ⟨assemble (rest.take 8) order :: f.bytes, f.acc + 1, f.rej⟩
      else
        let f := frameScan order rest 0
        ⟨f.bytes, f.acc, f.rej + 1⟩

/-- `decode(b, order)` (44_byte_framer.md R231). -/
def decodeFrames (b : List Bool) (order : BitOrder) : Framed := frameScan order b 0

/-- The 8 data bits of a byte in an order (44_byte_framer.md R236). -/
def serialise (order : BitOrder) (b : Byte) : List Bool :=
  match order with
  | .lsbFirst => (List.range 8).map fun k => b.getLsbD k
  | .msbFirst => (List.range 8).map fun k => b.getLsbD (7 - k)

/-- `frame(B)`: the 10-bit units of a byte sequence (44_byte_framer.md R236). The block does not do this: it is
the sender's side of the round trip. -/
def frameBytes (order : BitOrder) (bytes : List Byte) : List Bool :=
  bytes.flatMap fun b => false :: (serialise order b ++ [true])

end Sys2Proof.Machine
end

