-- ==== Sys2Proof/Machine/Sync.lean ====
section
/-! DEFINITION. The frame synchronizer (43_frame_sync.md R210–R219). -/

namespace Sys2Proof.Machine

/-- `P(b, M, W)`, the candidate positions in increasing order, of a stream of `n` bits, a marker of `m` and a
search window `w`, 0 for no bound (43_frame_sync.md R211). -/
def candidates (n m w : Nat) : List Nat :=
  (List.range (n + 1 - m)).filter fun p => w == 0 || decide (p < w)

/-- `d(b, m, p)`, the Hamming distance at position `p` (43_frame_sync.md R212). -/
def hamming (b m : List Bool) (p : Nat) : Nat :=
  ((b.drop p).zip m).countP fun x => x.1 != x.2

/-- One position of the scan of `locate`: it replaces the best so far where its distance is within the tolerance
and strictly smaller (43_frame_sync.md R213). -/
def betterMatch (b m : List Bool) (e : Nat) (best : Option (Nat × Nat)) (p : Nat) : Option (Nat × Nat) :=
  let d := hamming b m p
  match best with
  | none => if d ≤ e then some (p, d) else none
  | some x => if d ≤ e ∧ d < x.2 then some (p, d) else some x

/-- `locate(b, m, E, W)` (43_frame_sync.md R213). -/
def locate (b m : List Bool) (e w : Nat) : Option (Nat × Nat) :=
  (candidates b.length m.length w).foldl (betterMatch b m e) none

/-- The head search over a bit stream (43_frame_sync.md R214). -/
def headSearch (c : ConfigRegs) (b : List Bool) : Option (Nat × Nat) :=
  locate b (markerBits c.headPat c.headLen) c.maxErr c.headWin.toNat

/-- The tail search over what follows the head; its positions are relative to there (43_frame_sync.md R215). -/
def tailSearch (c : ConfigRegs) (rest : List Bool) : Option (Nat × Nat) :=
  locate rest (markerBits c.tailPat c.tailLen) c.maxErr c.tailWin.toNat

/-- Set PAYLOAD_START and PAYLOAD_END. -/
def setPayload (ps pe : Nat) (s : State) : State :=
  { s with msg := { s.msg with payloadStart := BitVec.ofNat 32 ps, payloadEnd := BitVec.ofNat 32 pe } }

/-- A marker was missed (43_frame_sync.md R216): in strict mode SYNC_FAIL and no payload, in lenient mode the
payload `[ps, pe)`. -/
def missedMarker (ps pe : Nat) (s : State) : State × Option (Nat × Nat) :=
  if s.cfg.syncStrict then (s.raise .syncFail, none) else (setPayload ps pe s, some (ps, pe))

/-- `sync()`, with its writes; the payload's bounds, or none (43_frame_sync.md R218). -/
def sync (s : State) : State × Option (Nat × Nat) :=
  let b := s.msg.bits
  let s0 := { s with msg := { s.msg with
    syncResult := 0, headPos := 0, tailPos := 0, payloadStart := 0, payloadEnd := 0 } }
  match headSearch s.cfg b with
  | none => missedMarker 0 b.length (s0.raise .headMiss)
  | some (ph, eh) =>
    let st := ph + s.cfg.headLen
    match tailSearch s.cfg (b.drop st) with
    | none =>
      missedMarker st b.length ({ s0 with msg := { s0.msg with
        syncResult := syncWord true false true eh 0, headPos := BitVec.ofNat 32 ph } }.raise .tailMiss)
    | some (pt, et) =>
      (setPayload st (st + pt) { s0 with msg := { s0.msg with
        syncResult := syncWord true true true eh et, headPos := BitVec.ofNat 32 ph,
        tailPos := BitVec.ofNat 32 (st + pt) } }, some (st, st + pt))

end Sys2Proof.Machine
end

