-- ==== Sys2Proof/Machine/Destuffer.lean ====
section
/-! DEFINITION. The escape-byte destuffer and phase 2 (45_destuffer.md R250–R258). -/

namespace Sys2Proof.Machine

/-- The XOR mask of the escape scheme (00_scope.md R9, 45_destuffer.md R250). -/
def escapeMask : Byte := 0x20

/-- The destuffing automaton of 45_destuffer.md R250 from the state `pending` on: the bytes out, and whether an
escape is left pending at the end. -/
def unstuffFrom (e : Byte) : (pending : Bool) → List Byte → List Byte × Bool
  | pending, [] => ([], pending)
  | true, b :: rest =>
    let r := unstuffFrom e false rest
    ((b ^^^ escapeMask) :: r.1, r.2)
  | false, b :: rest =>
    if b = e then unstuffFrom e true rest
    else
      let r := unstuffFrom e false rest
      (b :: r.1, r.2)

/-- `unstuff(y, e)` (45_destuffer.md R250). -/
def unstuff (y : List Byte) (e : Byte) : List Byte × Bool := unstuffFrom e false y

/-- `stuff_e(B)` (45_destuffer.md R255): the sender's side, which the block does not do. -/
def stuff (e : Byte) (bytes : List Byte) : List Byte :=
  bytes.flatMap fun b => if b = e then [e, b ^^^ escapeMask] else [b]

/-- `printable(b)` (45_destuffer.md R253). -/
def printable (b : Byte) : Bool := decide (32 ≤ b.toNat) && decide (b.toNat ≤ 126)

/-- `entry(b)` (45_destuffer.md R254): VALID, PRINT and BYTE (30_encoding.md R106). -/
def outEntry (b : Byte) : Word := 1#1 ++ 0#22 ++ BitVec.ofBool (printable b) ++ b

/-- The end of phase 2 once there is a payload `[ps, pe)`: framing, destuffing and the output entries
(45_destuffer.md R258). -/
def decodePayload (ps pe : Nat) (s : State) : State :=
  let f := decodeFrames ((s.msg.bits.take pe).drop ps) s.cfg.bitOrder
  let u := unstuff f.bytes s.cfg.escapeByte
  let t := if u.2 then s.raise .truncEsc else s
  { t with msg := { t.msg with
    frameCount := BitVec.ofNat 32 f.acc, frameErrCount := BitVec.ofNat 32 f.rej,
    outseq := u.1.map outEntry, outTotal := BitVec.ofNat 32 u.1.length } }

/-- Phase 2 leaves OUTSEQ empty (45_destuffer.md R257). -/
def emptyOutput (s : State) : State := { s with msg := { s.msg with outseq := [] } }

/-- `phase2()` (45_destuffer.md R258). -/
def phase2 (s : State) : State :=
  if flt s.msg.peak s.cfg.ampFloor then emptyOutput (s.raise .weak)
  else
    match sync s with
    | (t, none) => emptyOutput t
    | (t, some (ps, pe)) => decodePayload ps pe t

end Sys2Proof.Machine
end

