-- ==== Sys2Proof/Machine/Coeff.lean ====
section
/-! DEFINITION. The bin index and the Goertzel coefficient (41_tone_energy.md R171, R172). -/

namespace Sys2Proof.Machine

/-- The bin index `k` of a window of length `len` at the tone `f` with the sample rate `fs`: `len·f / fs` rounded
to the nearest integer, ties to even (41_tone_energy.md R171). -/
def binIndex (len f fs : Nat) : Nat :=
  let q := len * f / fs
  let r := len * f % fs
  if 2 * r > fs then q + 1
  else if 2 * r < fs then q
  else if q % 2 = 0 then q else q + 1

/-- Pi times 2^256, rounded down (PRESUMED: the digits of pi are general knowledge, log 5). -/
def piFixed : Nat := 0x3243f6a8885a308d313198a2e03707344a4093822299f31d0082efa98ec4e6c89

/-- The alternating tail `t - t·x²/((m+1)(m+2)) + …` of a cosine series, in units of 2^-256, where `x2` is the
square of the argument and `t` the term of degree `m` (log 5). -/
def cosTail : (terms : Nat) → (x2 m t : Nat) → Nat
  | 0, _, _, _ => 0
  | n + 1, x2, m, t => t - cosTail n x2 (m + 2) (t * x2 / (2 ^ 256 * ((m + 1) * (m + 2))))

/-- The cosine of `x`·2^-256 for an argument below pi/2, in units of 2^-256 (log 5). -/
def cosFixed (x : Nat) : Nat := cosTail 40 (x * x / 2 ^ 256) 0 (2 ^ 256)

/-- The default COEFF_FN: the binary64 nearest to `2·cos(2·pi·k/len)`, exact where that number is a binary64
(41_tone_energy.md R172). The other values come from a cosine with 256 fractional bits, rounded once (log 5). -/
def defaultCoeff (k len : Nat) : F64 :=
  let t := k % len
  if t = 0 then 0x4000000000000000
  else if 6 * t = len ∨ 6 * t = 5 * len then 0x3FF0000000000000
  else if 4 * t = len ∨ 4 * t = 3 * len then 0x0000000000000000
  else if 3 * t = len ∨ 3 * t = 2 * len then 0xBFF0000000000000
  else if 2 * t = len then 0xC000000000000000
  else
    let a := if 2 * t > len then len - t else t
    let negative := decide (4 * a > len)
    let b := if negative then len - 2 * a else 2 * a
    fPack negative (roundMag (2 * cosFixed (piFixed * b / len) * 2 ^ 818) 0)

/-- COEFF_FN of the instance (00_scope.md R8, log 4). -/
def coeffFn (choice : CoeffChoice) (k len : Nat) : F64 :=
  match choice with
  | .default => defaultCoeff k len
  | .custom which => Config.customCoeff which k len

end Sys2Proof.Machine
end

