-- ==== Sys2Proof/Machine/Goertzel.lean ====
section
/-! DEFINITION. The tone-energy estimator (41_tone_energy.md R174–R177). -/

namespace Sys2Proof.Machine

/-- The recurrence of 41_tone_energy.md R174 over the samples from number `n` on, from the states `s1` and `s2`;
`draw` gives the NaN encodings of its operations in order (log 3). -/
def goertzelLoop (draw : Nat → F64) (c : F64) : (w : List F64) → (n : Nat) → (s1 s2 : F64) → F64 × F64
  | [], _, s1, s2 => (s1, s2)
  | x :: w, n, s1, s2 =>
    goertzelLoop draw c w (n + 1)
      (fsub (draw (3 * n + 2)) (fadd (draw (3 * n + 1)) x (fmul (draw (3 * n)) c s1)) s2) s1

/-- The power of the final states, `s2² + s1² − coeff·s1·s2` read left to right (41_tone_energy.md R174). -/
def goertzelPower (draw : Nat → F64) (c : F64) (n : Nat) (s1 s2 : F64) : F64 :=
  fsub (draw (3 * n + 5))
    (fadd (draw (3 * n + 2)) (fmul (draw (3 * n)) s2 s2) (fmul (draw (3 * n + 1)) s1 s1))
    (fmul (draw (3 * n + 4)) (fmul (draw (3 * n + 3)) c s1) s2)

/-- `goertzel(w, c)` (41_tone_energy.md R174), +0.0 for an empty window (R175). -/
def goertzel (draw : Nat → F64) (w : List F64) (c : F64) : F64 :=
  match w with
  | [] => 0
  | x :: rest =>
    let s := goertzelLoop draw c (x :: rest) 0 0 0
    goertzelPower draw c (rest.length + 1) s.1 s.2

/-- `estimate(w, f)` (41_tone_energy.md R176): a function of the window, the tone and the configuration alone.
The coefficient is that of the window's own length (R173). -/
def estimate (choice : CoeffChoice) (fs : Nat) (w : List F64) (f : Nat) : F64 :=
  goertzel (Config.nanDraw w f fs) w (coeffFn choice (binIndex w.length f fs) w.length)

end Sys2Proof.Machine
end

