-- ==== Sys2Proof/Machine/Slicer.lean ====
section
/-! DEFINITION. The symbol slicer and comparator (42_symbol_slicer.md R190–R196). -/

namespace Sys2Proof.Machine

/-- `gated(Pm, Ps)` (42_symbol_slicer.md R191): both powers strictly below the floor, and gating on. -/
def gated (c : ConfigRegs) (pm ps : F64) : Bool :=
  match c.gateMode with
  | .none => false
  | .drop | .unknown | .reserved => flt pm c.noiseFloor && flt ps c.noiseFloor

/-- A power scaled by BIAS, as the comparator uses it. Where the product is a NaN its encoding is a draw that no
comparison can see (00_scope.md R14, log 3). -/
def biased (c : ConfigRegs) (p : F64) : F64 := fmul (Config.nanDraw [p] 0 0 0) p c.bias

/-- `slice(Pm, Ps)`, the comparator (42_symbol_slicer.md R192). -/
def slice (c : ConfigRegs) (pm ps : F64) : Bool :=
  match c.sliceMode with
  | .markTest => fgt pm (biased c ps)
  | .spaceTest => !fgt ps (biased c pm)

/-- `overflow()`: the bit buffer is full and the symbol is lost (42_symbol_slicer.md R195). -/
def bitbufOverflow (s : State) : State :=
  { s with msg := { s.msg with bitlostCount := s.msg.bitlostCount + 1 } }.raise .bitbufOvf

/-- Store one symbol, or lose it where the bit buffer is full (42_symbol_slicer.md R194, the last part). -/
def storeSymbol (bit unk : Bool) (s : State) : State :=
  if s.msg.bitbuf.length < s.params.bitbufDepth then
    { s with msg := { s.msg with bitbuf := s.msg.bitbuf ++ [⟨bit, unk⟩] } }
  else bitbufOverflow s

/-- `append_symbol(bit, g)` (42_symbol_slicer.md R194). -/
def appendSymbol (bit g : Bool) (s : State) : State :=
  match g, s.cfg.gateMode with
  | true, .drop => { s with msg := { s.msg with dropCount := s.msg.dropCount + 1 } }
  | true, .unknown => storeSymbol bit true { s with msg := { s.msg with unkCount := s.msg.unkCount + 1 } }
  | g, _ => storeSymbol bit g s

/-- `window_complete(w)` (42_symbol_slicer.md R190). -/
def windowComplete (w : List F64) (s : State) : State :=
  let fs := s.cfg.sampleRate.toNat
  let pm := estimate s.params.coeff fs w s.cfg.markFreq.toNat
  let ps := estimate s.params.coeff fs w s.cfg.spaceFreq.toNat
  let bit := slice s.cfg pm ps ^^ s.cfg.polarity
  appendSymbol bit (gated s.cfg pm ps) { s with msg := { s.msg with lastPm := pm, lastPs := ps } }

end Sys2Proof.Machine
end

