-- ==== Sys2Proof/Machine/Engine.lean ====
section
/-! DEFINITION. The engine (40_host_ops.md R150–R156): which step is enabled, and what each does, as one
indivisible step (R152). -/

namespace Sys2Proof.Machine

/-- The engine's steps (40_host_ops.md R150). -/
inductive EngineStep where
  | consume | drain | compute | deliver | complete
deriving DecidableEq, Repr

/-- The enabled step, the first matching row of the table of 40_host_ops.md R150. -/
def enabledStep (s : State) : Option EngineStep :=
  if s.isOpen ∧ s.msg.sfifo ≠ [] then some .consume
  else if s.state = .finish then
    match s.msg.fphase with
    | .drain => some .drain
    | .compute => some .compute
    | .deliver =>
      if s.msg.outseq = [] then some .complete
      else if s.msg.ofifo.length < s.params.ofifoDepth then some .deliver
      else none
  else none

/-- `consume_sample(x)` (41_tone_energy.md R170). -/
def consumeSample (x : F64) (s : State) : State :=
  { s with msg := { s.msg with
    peak := if fgt (fabs x) s.msg.peak then fabs x else s.msg.peak
    winbuf := s.msg.winbuf ++ [x] } }

/-- The end of CONSUME: a full window is demodulated and WLEN goes back to 0 (40_host_ops.md R151). -/
def closeWindow (s : State) : State :=
  if s.msg.winbuf.length = s.cfg.windowLen then
    windowComplete s.msg.winbuf { s with msg := { s.msg with winbuf := [] } }
  else s

/-- CONSUME (40_host_ops.md R151). -/
def consumeStep (s : State) : State :=
  match s.msg.sfifo with
  | [] => s
  | x :: rest => closeWindow (consumeSample x { s with msg := { s.msg with sfifo := rest } })

/-- DRAIN (40_host_ops.md R153): the tail window is kept where it is at least half as long as a window. -/
def drainStep (s : State) : State :=
  let w := s.msg.winbuf
  let t := { s with msg := { s.msg with winbuf := [], fphase := .compute } }
  if 0 < w.length ∧ s.cfg.windowLen ≤ 2 * w.length then windowComplete w t else t

/-- COMPUTE (40_host_ops.md R154). -/
def computeStep (s : State) : State :=
  let t := phase2 s
  { t with msg := { t.msg with fphase := .deliver } }

/-- DELIVER (40_host_ops.md R155): one entry from OUTSEQ to OFIFO. -/
def deliverStep (s : State) : State :=
  match s.msg.outseq with
  | [] => s
  | x :: rest => { s with msg := { s.msg with outseq := rest, ofifo := s.msg.ofifo ++ [x] } }

/-- COMPLETE (40_host_ops.md R156). -/
def completeStep (s : State) : State := { s with state := .done }.raise .done

/-- One turn of the engine: its enabled step, or nothing where none is enabled (40_host_ops.md R150). -/
def engineStep (s : State) : State :=
  match enabledStep s with
  | some .consume => consumeStep s
  | some .drain => drainStep s
  | some .compute => computeStep s
  | some .deliver => deliverStep s
  | some .complete => completeStep s
  | none => s

end Sys2Proof.Machine
end

