-- ==== Sys2Proof/Machine/HostPort.lean ====
section
/-! DEFINITION. The turns of the host and the platform: the next item of `inbox` is performed (log 1), at the
block's port or through the platform adapter (20_memory.md R75). And whose turn it is (20_memory.md R71, log 2). -/

namespace Sys2Proof.Machine

/-- The number of the step that is the engine's `k`-th turn, where `gap` says how many turns of the host fall
before each turn of the engine (log 2). -/
def engineTurn (gap : Nat → Nat) : Nat → Nat
  | 0 => gap 0
  | k + 1 => engineTurn gap k + 1 + gap (k + 1)

/-- The agent of step number `n` of the schedule with these gaps. These schedules are the weakly fair ones of
20_memory.md R71: in each the engine moves again and again, and each in which it does has its gaps (log 2). -/
def scheduled (gap : Nat → Nat) (n : Nat) : Agent :=
  if (List.range (n + 1)).any fun k => engineTurn gap k == n then .engine else .host

/-- The agent that takes the next step: what the state says, else what the weakly fair schedule says (log 2). -/
def nextAgent (s : State) : Agent :=
  match s.turns with
  | [] => scheduled Config.hostGap s.ticks
  | a :: _ => a

/-- The turn is used up (log 2). -/
def State.takeTurn (s : State) : State := { s with turns := s.turns.tail, ticks := s.ticks + 1 }

/-- RDATA of the last response, 0 before the first. -/
def lastRdata (s : State) : Word :=
  match s.responses with
  | [] => 0
  | r :: _ => r.rdata

/-- What the platform adapter makes of an access (20_memory.md R75). -/
inductive Adapted where
  /-- a whole aligned word of the register space: forwarded -/
  | forward (w : BusWord)
  /-- sub-word or misaligned: answered with a bus error -/
  | busError (off : Nat)
  /-- not an address of the block -/
  | elsewhere
deriving DecidableEq, Repr

/-- The platform adapter of a block at address `base` (20_memory.md R72, R74, R75; log 7). -/
def adapt (base : Nat) (a : PlatformAccess) : Adapted :=
  if a.addr < base ∨ base + 256 ≤ a.addr then .elsewhere
  else
    let off := a.addr - base
    if a.size = .word ∧ off % 4 = 0 then
      .forward (busWord a.write (BitVec.ofNat 6 (off / 4)) (if a.write then a.data else 0))
    else .busError off

/-- An access at the platform bus. -/
def platformStep (base : Nat) (a : PlatformAccess) (s : State) : Host.Outcome State Fault Refusal :=
  match adapt base a with
  | .forward w => exec (decodeBus w) s
  | .busError off => .next (s.respond .busErr (if a.write then 0 else Config.adapterData off))
  | .elsewhere => .next s

/-- One read of a `poll` statement, after the read `t`: the statement stays where the masked value differs
(30_encoding.md R110). -/
def pollAgain (woff : BitVec 6) (mask val : Word) (t : State) : State :=
  if lastRdata t &&& mask = val then t else { t with inbox := .poll woff mask val :: t.inbox }

/-- One turn of the host: the next item of `inbox`, or nothing where the host has nothing to do (log 1). -/
def hostStep (s : State) : Host.Outcome State Fault Refusal :=
  match s.inbox with
  | [] => .next s
  | .bus w :: rest => exec (decodeBus w) { s with inbox := rest }
  | .poll woff mask val :: rest =>
    match exec (decodeRead woff) { s with inbox := rest } with
    | .next t => .next (pollAgain woff mask val t)
    | .fault r => .fault r
    | .refused r => .refused r
  | .platform a :: rest => platformStep Config.base a { s with inbox := rest }
  | .resetLine :: rest => .next (resetBlock { s with inbox := rest })

/-! ## The host notation of 30_encoding.md R110, as lists of inputs -/

/-- `wr REG, imm`. -/
def hostWr (r : Reg) (imm : Word) : List Input := [.bus (busWord true (regWoff r) imm)]

/-- `rd REG`. -/
def hostRd (r : Reg) : List Input := [.bus (busWord false (regWoff r) 0)]

/-- `cmd NAME`, by its code (30_encoding.md R104). -/
def hostCmd (code : Word) : List Input := hostWr .cmd code

/-- `push v`. -/
def hostPush (v : F64) : List Input := hostWr .sampleLo (lowWord v) ++ hostWr .sampleHi (highWord v)

/-- `pushhi v`, legal only where the low word of `v` and LO_LATCH are 0 (30_encoding.md R110). -/
def hostPushHi (v : F64) : List Input := hostWr .sampleHi (highWord v)

/-- `poll REG, mask, val`. -/
def hostPoll (r : Reg) (mask val : Word) : List Input := [.poll (regWoff r) mask val]

end Sys2Proof.Machine
end

