-- ==== Sys2Proof/Machine/Step.lean ====
section
/-! DEFINITION. One step of the machine (20_memory.md R71): one atomic step of the agent whose turn it is, one bus
access of the host or one step of the engine. A turn with nothing to do changes nothing but the turn (log 2). -/

namespace Sys2Proof.Machine

/-- One step (20_memory.md R70, R71). -/
def step (s : State) : Host.Outcome State Fault Refusal :=
  match nextAgent s with
  | .host => hostStep s.takeTurn
  | .engine => .next (engineStep s.takeTurn)

/-- `s` with the transaction of a table word as the host's next access, and the host's turn next (log 1). -/
def State.withFetchWord (s : State) (nbits w : Nat) : State :=
  { s with inbox := .bus (busOfTableWord nbits w) :: s.inbox, turns := .host :: s.turns }

end Sys2Proof.Machine
end

