-- ==== Sys2Proof/Safety.lean ====
section
/-! DEFINITION. What the claims are stated in: what a step performs, what the engine does alone, and the conditions
that hold of every state a run can reach. -/

namespace Sys2Proof.Machine

/-- What a step does: an engine step, a host access at the block's port, the reset input, or nothing that reaches
the block. -/
inductive Action where
  | engine (e : EngineStep)
  | access (i : Instr)
  | resetLine
  | nothing
deriving DecidableEq, Repr

/-- What the step from `s` performs (20_memory.md R70, R71). -/
def action (s : State) : Action :=
  match nextAgent s with
  | .engine =>
    match enabledStep s with
    | some e => .engine e
    | none => .nothing
  | .host =>
    match s.inbox with
    | [] => .nothing
    | .bus w :: _ => .access (decodeBus w)
    | .poll woff _ _ :: _ => .access (decodeRead woff)
    | .platform a :: _ =>
      match adapt Config.base a with
      | .forward w => .access (decodeBus w)
      | .busError _ => .nothing
      | .elsewhere => .nothing
    | .resetLine :: _ => .resetLine

/-- The engine's turns alone: `n` of them. -/
def engineRun : Nat → State → State
  | 0, s => s
  | n + 1, s => engineRun n (engineStep s)

/-- The state after `n` steps. -/
def stepsFrom : Nat → State → State
  | 0, s => s
  | n + 1, s =>
    match step s with
    | .next t => stepsFrom n t
    | .fault _ => s
    | .refused _ => s

/-- The parameters are in their legal ranges (00_scope.md R8). -/
abbrev ParamsLegal (p : Params) : Prop :=
  (1 ≤ p.winMax ∧ p.winMax ≤ 2 ^ 16) ∧ (1 ≤ p.bitbufDepth ∧ p.bitbufDepth ≤ 2 ^ 24) ∧
  (1 ≤ p.sfifoDepth ∧ p.sfifoDepth ≤ 65535) ∧ (1 ≤ p.ofifoDepth ∧ p.ofifoDepth ≤ 65535)

/-- The internal stores hold no more than their capacities (10_state.md R61, R64, R65). -/
abbrev StoresFit (s : State) : Prop :=
  s.msg.sfifo.length ≤ s.params.sfifoDepth ∧ s.msg.ofifo.length ≤ s.params.ofifoDepth ∧
  s.msg.bitbuf.length ≤ s.params.bitbufDepth

/-- The reserved bits of the masked registers are 0 (20_memory.md R80), and so are EVENTS bits 31:13
(10_state.md R35). -/
abbrev ReservedBitsZero (s : State) : Prop :=
  s.cfg.ctrl &&& ~~~0x0000003F#32 = 0 ∧ s.cfg.syncCfg &&& ~~~0x003F3F3F#32 = 0 ∧
  s.cfg.escape &&& ~~~0x000000FF#32 = 0 ∧ s.intEn &&& ~~~0x00001FFF#32 = 0 ∧
  s.events &&& ~~~0x00001FFF#32 = 0

/-- While a message is open its configuration is a valid one (40_host_ops.md R131, 20_memory.md R84). -/
abbrev OpenConfigValid (s : State) : Prop :=
  s.isOpen = true → validConfig s.params.winMax s.cfg = true

/-- While a message is open the window under assembly is shorter than a window (10_state.md R62, 41 R170). -/
abbrev WindowUnderAssembly (s : State) : Prop :=
  s.isOpen = true → s.msg.winbuf.length < s.cfg.windowLen

/-- Nothing of phase 2 has been written yet. -/
abbrev NoResultsYet (m : Message) : Prop :=
  m.outseq = [] ∧ m.ofifo = [] ∧ m.syncResult = 0 ∧ m.headPos = 0 ∧ m.tailPos = 0 ∧ m.payloadStart = 0 ∧
  m.payloadEnd = 0 ∧ m.frameCount = 0 ∧ m.frameErrCount = 0 ∧ m.outTotal = 0

/-- What each engine state says of the message state (10_state.md R22, R66, R67; 60_exceptions.md R273): nothing
in IDLE and ERROR; no result before COMPUTE; the input side empty after DRAIN; everything delivered in DONE. -/
abbrev Lifecycle (s : State) : Prop :=
  match s.state with
  | .idle => s.msg = Message.clear
  | .error => s.msg = Message.clear
  | .run => NoResultsYet s.msg
  | .finish =>
    match s.msg.fphase with
    | .drain => NoResultsYet s.msg
    | .compute => NoResultsYet s.msg ∧ s.msg.sfifo = [] ∧ s.msg.winbuf = []
    | .deliver => s.msg.sfifo = [] ∧ s.msg.winbuf = []
  | .done => s.msg.sfifo = [] ∧ s.msg.winbuf = [] ∧ s.msg.outseq = []

/-- PEAK is a number, and not below zero (41_tone_energy.md R170). -/
abbrev PeakIsNumber (s : State) : Prop :=
  isNaN s.msg.peak = false ∧ fSign s.msg.peak = false

/-- The payload lies within the bit stream (43_frame_sync.md R217). -/
abbrev PayloadWithinStream (s : State) : Prop :=
  s.msg.payloadStart.toNat ≤ s.msg.payloadEnd.toNat ∧ s.msg.payloadEnd.toNat ≤ s.msg.bitbuf.length

/-- Every waiting output word is the entry of some byte (45_destuffer.md R254), so its VALID bit is 1. -/
abbrev OutputEntries (s : State) : Prop :=
  (∀ e ∈ s.msg.outseq, ∃ b : Byte, e = outEntry b) ∧ ∀ e ∈ s.msg.ofifo, ∃ b : Byte, e = outEntry b

/-- The conditions that hold of every state a run can reach. -/
structure Inv (s : State) : Prop where
  params : ParamsLegal s.params
  stores : StoresFit s
  reserved : ReservedBitsZero s
  config : OpenConfigValid s
  window : WindowUnderAssembly s
  lifecycle : Lifecycle s
  peak : PeakIsNumber s
  payload : PayloadWithinStream s
  entries : OutputEntries s

/-- The result registers that COMPUTE writes (70_reset_and_hazards.md R313). -/
def Message.results (m : Message) : List Word :=
  [m.syncResult, m.headPos, m.tailPos, m.payloadStart, m.payloadEnd, m.frameCount, m.frameErrCount, m.outTotal]

/-- A run stops nowhere: the outcome is a next state (60_exceptions.md R290). -/
def Completes (o : Host.Outcome State Fault Refusal) : Prop := ∃ t, o = .next t

end Sys2Proof.Machine
end

