-- ==== Sys2Proof/Certificates/Slice0/Obligations.lean ====
section
/-! DEFINITION. The statements for the provers. -/

namespace Sys2Proof.Claims
open Sys2Proof.Machine

/-- The access `i` answers OK with the read data `v` and changes nothing else. -/
def ReadsAs (i : Instr) (s : State) (v : Word) : Prop := exec i s = .next (s.respond .ok v)

/-- The write `i` answers OK with read data 0 and leaves the block as `t` has it. -/
def LeadsTo (i : Instr) (s t : State) : Prop := exec i s = .next (t.respond .ok 0)

/-- The access `i` is answered with BUSERR and read data 0, and changes nothing else. -/
def RefusedBy (i : Instr) (s : State) : Prop := exec i s = .next (s.respond .busErr 0)

/-- A configuration write: with a message open LOCK_ERR and no more, else the configuration `c`. -/
def ConfigWrite (i : Instr) (s : State) (c : ConfigRegs) : Prop :=
  (s.state = .run ∨ s.state = .finish → LeadsTo i s { s with events := s.events ||| 1#32 <<< 12 }) ∧
  (s.state = .idle ∨ s.state = .done ∨ s.state = .error → LeadsTo i s { s with cfg := c })

/-- The reset state of a block, written out (70_reset_and_hazards.md R300): what is outside the block, and the
parameters, as `s` has them. -/
def resetOf (s : State) : State :=
  { s with
    state := .idle
    cfg := {
      ctrl := 0, sampleRate := 48000, baud := 1200, markFreq := 2200, spaceFreq := 1200,
      biasLo := 0, biasHi := 0x3FF00000, noiseFloorLo := 0, noiseFloorHi := 0, ampFloorLo := 0,
      ampFloorHi := 0, headPat := 0x24, tailPat := 0x23, syncCfg := 0x00010808, headWin := 0,
      tailWin := 0, escape := 0x7D }
    events := 0, intEn := 0, bitbufAddr := 0, loLatch := 0
    msg := {
      sfifo := [], winbuf := [], peak := 0, bitbuf := [], lastPm := 0, lastPs := 0, outseq := [], ofifo := []
      fphase := .drain
      sampleCount := 0, dropCount := 0, unkCount := 0, bitlostCount := 0, syncResult := 0, headPos := 0
      tailPos := 0, payloadStart := 0, payloadEnd := 0, frameCount := 0, frameErrCount := 0, outTotal := 0 } }

/-- The step from `s` is a reset or discards the message: ABORT, SOFT_RESET, or the reset input. -/
def Discards (s : State) : Prop :=
  action s = .access .cmdAbort ∨ action s = .access .cmdSoftReset ∨ action s = .resetLine

/-- The engine waits for room in OFIFO (70_reset_and_hazards.md R315). -/
def Held (s : State) : Prop :=
  s.state = .finish ∧ s.msg.fphase = .deliver ∧ s.msg.sfifo = [] ∧ s.msg.outseq ≠ [] ∧
  s.msg.ofifo.length = s.params.ofifoDepth

/-- A binary64 encoding of a finite number. -/
def Finite (a : F64) : Prop := isNaN a = false ∧ isInf a = false

/-- `r` is the binary64 nearest to `z` units of 2^-(1074+u), and the one with the even fraction where two are as
near: no finite `c` is nearer, and where one of another value is as near, the fraction of `r` is even. -/
def NearestEven (z : Int) (u : Nat) (r : F64) : Prop :=
  Finite r ∧ ∀ c : F64, Finite c →
    (fVal r * 2 ^ u - z).natAbs ≤ (fVal c * 2 ^ u - z).natAbs ∧
    ((fVal r * 2 ^ u - z).natAbs = (fVal c * 2 ^ u - z).natAbs → fVal r ≠ fVal c → fFrac r % 2 = 0)

/-- `r` is `z` units of 2^-(1074+u) rounded to nearest, ties to even: an infinity of the sign of `z` from half a
unit in the last place above the largest finite number on. -/
def RoundedTo (z : Int) (u : Nat) (r : F64) : Prop :=
  if z.natAbs < (2 ^ 54 - 1) * 2 ^ (2044 + u) then NearestEven z u r
  else isInf r = true ∧ fSign r = decide (z < 0)

/-- The body of 41_tone_energy.md R174 as it is written, with the samples read by index; `draw` gives the encodings
of NaN results, by operation. -/
def goertzelWritten (draw : Nat → F64) (w : List F64) (c : F64) : F64 :=
  if w.length = 0 then 0
  else
    let n := 3 * w.length
    let s := (List.range w.length).foldl (fun (s : F64 × F64) i =>
      (fsub (draw (3 * i + 2)) (fadd (draw (3 * i + 1)) (w.getD i 0) (fmul (draw (3 * i)) c s.1)) s.2, s.1)) (0, 0)
    fsub (draw (n + 5)) (fadd (draw (n + 2)) (fmul (draw n) s.2 s.2) (fmul (draw (n + 1)) s.1 s.1))
      (fmul (draw (n + 4)) (fmul (draw (n + 3)) c s.1) s.2)

/-- The loop of 44_byte_framer.md R231 as it is written, with the scan position `i`, at most `fuel` rounds. -/
def framerLoop (order : BitOrder) (b : List Bool) : (fuel i : Nat) → (out : List Byte) → (acc rej : Nat) → Framed
  | 0, _, out, acc, rej => ⟨out, acc, rej⟩
  | fuel + 1, i, out, acc, rej =>
    if i + 10 > b.length then ⟨out, acc, rej⟩
    else if b.getD i false then framerLoop order b fuel (i + 1) out acc rej
    else if b.getD (i + 9) false then
      let data (k : Nat) : Byte := (BitVec.ofBool (b.getD (i + 1 + k) false)).setWidth 8
      let byte : Byte :=
        match order with
        | .lsbFirst => data 0 + data 1 <<< 1 + data 2 <<< 2 + data 3 <<< 3 + data 4 <<< 4 + data 5 <<< 5 +
            data 6 <<< 6 + data 7 <<< 7
        | .msbFirst => data 0 <<< 7 + data 1 <<< 6 + data 2 <<< 5 + data 3 <<< 4 + data 4 <<< 3 + data 5 <<< 2 +
            data 6 <<< 1 + data 7
      framerLoop order b fuel (i + 10) (out ++ [byte]) (acc + 1) rej
    else framerLoop order b fuel (i + 1) out acc (rej + 1)

/-- One round of the loop of 45_destuffer.md R250 as it is written. -/
def destuffRound (e : Byte) (x : List Byte × Bool) (b : Byte) : List Byte × Bool :=
  if x.2 then (x.1 ++ [b ^^^ 0x20], false) else if b = e then (x.1, true) else (x.1 ++ [b], x.2)

end Sys2Proof.Claims

open Sys2Proof Sys2Proof.Machine Sys2Proof.Claims

/-! ## The host's transactions -/

/-- A step in the host's turn runs the transaction it decodes from the head of the inbox. -/
def Obligations.StepRunsDecodedTransaction : Prop :=
  (∀ (s : State) (w : BusWord) (rest : List Input) (i : Instr),
    nextAgent s = .host → s.inbox = .bus w :: rest → decodeBus w = i → wellFormed i = true →
    step s = exec i { s with inbox := rest, turns := s.turns.tail, ticks := s.ticks + 1 }) ∧
  ∀ (s : State) (a : Agent) (rest : List Agent), s.turns = a :: rest → nextAgent s = a

/-- A poll repeats its read until the masked value matches; the adapter forwards whole aligned words only; an empty inbox idles. -/
def Obligations.OtherInputsOfTheHost : Prop :=
  ∀ (s : State) (rest : List Input), nextAgent s = .host →
    let u : State := { s with inbox := rest, turns := s.turns.tail, ticks := s.ticks + 1 }
    (s.inbox = [] → rest = [] → step s = .next u) ∧
    (∀ (woff : BitVec 6) (mask val : Word) (t : State), s.inbox = .poll woff mask val :: rest →
      exec (decodeBus (busWord false woff 0)) u = .next t →
      step s = .next (if lastRdata t &&& mask = val then t
        else { t with inbox := .poll woff mask val :: t.inbox })) ∧
    ∀ a : PlatformAccess, s.inbox = .platform a :: rest →
      let off := a.addr - Config.base
      (Config.base ≤ a.addr → a.addr < Config.base + 256 → a.size = .word → off % 4 = 0 →
        step s = exec (decodeBus (busWord a.write (BitVec.ofNat 6 (off / 4)) (if a.write then a.data else 0))) u) ∧
      (Config.base ≤ a.addr → a.addr < Config.base + 256 → ¬ (a.size = .word ∧ off % 4 = 0) →
        ∃ v, step s = .next (u.respond .busErr v)) ∧
      (¬ (Config.base ≤ a.addr ∧ a.addr < Config.base + 256) → step s = .next u)

/-- Every plain register read returns the value of its register and changes nothing. -/
def Obligations.PlainReadsReturnTheRegister : Prop :=
  ∀ s : State,
    ReadsAs .rdId s 0x47545A31 ∧
    ReadsAs .rdVersion s 0x00010000 ∧
    ReadsAs .rdParamWin s (BitVec.ofNat 32 s.params.winMax) ∧
    ReadsAs .rdParamBitbuf s (BitVec.ofNat 32 s.params.bitbufDepth) ∧
    ReadsAs .rdParamFifo s (BitVec.ofNat 16 s.params.ofifoDepth ++ BitVec.ofNat 16 s.params.sfifoDepth) ∧
    ReadsAs .rdCtrl s s.cfg.ctrl ∧
    ReadsAs .rdSampleRate s s.cfg.sampleRate ∧
    ReadsAs .rdBaud s s.cfg.baud ∧
    ReadsAs .rdMarkFreq s s.cfg.markFreq ∧
    ReadsAs .rdSpaceFreq s s.cfg.spaceFreq ∧
    ReadsAs .rdBiasLo s s.cfg.biasLo ∧
    ReadsAs .rdBiasHi s s.cfg.biasHi ∧
    ReadsAs .rdNoiseFloorLo s s.cfg.noiseFloorLo ∧
    ReadsAs .rdNoiseFloorHi s s.cfg.noiseFloorHi ∧
    ReadsAs .rdAmpFloorLo s s.cfg.ampFloorLo ∧
    ReadsAs .rdAmpFloorHi s s.cfg.ampFloorHi ∧
    ReadsAs .rdHeadPat s s.cfg.headPat ∧
    ReadsAs .rdTailPat s s.cfg.tailPat ∧
    ReadsAs .rdSyncCfg s s.cfg.syncCfg ∧
    ReadsAs .rdHeadWin s s.cfg.headWin ∧
    ReadsAs .rdTailWin s s.cfg.tailWin ∧
    ReadsAs .rdEscape s s.cfg.escape ∧
    ReadsAs .rdEvents s s.events ∧
    ReadsAs .rdIntEn s s.intEn ∧
    ReadsAs .rdBitbufAddr s s.bitbufAddr ∧
    ReadsAs .rdSfifoLevel s (BitVec.ofNat 32 s.msg.sfifo.length) ∧
    ReadsAs .rdOutLevel s (BitVec.ofNat 32 s.msg.ofifo.length) ∧
    ReadsAs .rdSampleCount s s.msg.sampleCount ∧
    ReadsAs .rdSymbolCount s (BitVec.ofNat 32 s.msg.bitbuf.length) ∧
    ReadsAs .rdDropCount s s.msg.dropCount ∧
    ReadsAs .rdUnkCount s s.msg.unkCount ∧
    ReadsAs .rdBitlostCount s s.msg.bitlostCount ∧
    ReadsAs .rdLastPmarkLo s (s.msg.lastPm.extractLsb' 0 32) ∧
    ReadsAs .rdLastPmarkHi s (s.msg.lastPm.extractLsb' 32 32) ∧
    ReadsAs .rdLastPspaceLo s (s.msg.lastPs.extractLsb' 0 32) ∧
    ReadsAs .rdLastPspaceHi s (s.msg.lastPs.extractLsb' 32 32) ∧
    ReadsAs .rdPeakAmpLo s (s.msg.peak.extractLsb' 0 32) ∧
    ReadsAs .rdPeakAmpHi s (s.msg.peak.extractLsb' 32 32) ∧
    ReadsAs .rdSyncResult s s.msg.syncResult ∧
    ReadsAs .rdHeadPos s s.msg.headPos ∧
    ReadsAs .rdTailPos s s.msg.tailPos ∧
    ReadsAs .rdPayloadStart s s.msg.payloadStart ∧
    ReadsAs .rdPayloadEnd s s.msg.payloadEnd ∧
    ReadsAs .rdFrameCount s s.msg.frameCount ∧
    ReadsAs .rdFrameErrCount s s.msg.frameErrCount ∧
    ReadsAs .rdOutTotal s s.msg.outTotal

/-- A read of STATUS returns the engine state, the interrupt level and the three FIFO and buffer flags. -/
def Obligations.StatusShowsTheCurrentState : Prop :=
  (∀ s : State, ∃ v : Word, ReadsAs .rdStatus s v ∧
    v.extractLsb' 0 3 = (match s.state with
      | .idle => 0
      | .run => 1
      | .finish => 2
      | .done => 3
      | .error => 4) ∧
    v.getLsbD 3 = decide (s.events &&& s.intEn ≠ 0) ∧
    v.getLsbD 4 = decide (s.msg.sfifo.length = s.params.sfifoDepth) ∧
    v.getLsbD 5 = decide (s.msg.ofifo ≠ []) ∧
    v.getLsbD 6 = decide (s.msg.bitbuf.length = s.params.bitbufDepth) ∧
    v.extractLsb' 7 25 = 0) ∧
  ReadsAs .rdStatus State.reset 0

/-- Bit j of BITBUF_DATA and of BITBUF_UNK is bit 32·BITBUF_ADDR + j of its plane, 0 past the end. -/
def Obligations.BitbufWindowReadsTheStream : Prop :=
  ∀ s : State, ∃ v u : Word, ReadsAs .rdBitbufData s v ∧ ReadsAs .rdBitbufUnk s u ∧
    ∀ j < 32,
      v.getLsbD j = ((s.msg.bitbuf[32 * s.bitbufAddr.toNat + j]?).map Symbol.bit).getD false ∧
      u.getLsbD j = ((s.msg.bitbuf[32 * s.bitbufAddr.toNat + j]?).map Symbol.unk).getD false

/-- A read of OUT_DATA returns and removes the head of OFIFO, and returns 0 where it is empty. -/
def Obligations.OutDataReadPops : Prop :=
  ∀ s : State,
    (s.msg.ofifo = [] → ReadsAs .rdOutData s 0) ∧
    ∀ (e : Word) (rest : List Word), s.msg.ofifo = e :: rest →
      exec .rdOutData s = .next (State.respond { s with msg := { s.msg with ofifo := rest } } .ok e)

/-- A read of CMD, SAMPLE_LO or SAMPLE_HI returns 0 with an OK response and has no effect. -/
def Obligations.WriteOnlyRegistersReadZero : Prop :=
  ∀ s : State, ReadsAs .rdCmdReturns0 s 0 ∧ ReadsAs .rdSampleLoReturns0 s 0 ∧ ReadsAs .rdSampleHiReturns0 s 0

/-- A write to an RO or RP register is answered with BUSERR and changes nothing. -/
def Obligations.WritesOfReadOnlyRegistersAreRefused : Prop :=
  ∀ (s : State) (d : Word),
    (∀ r : Reg, regAccess r = .ro ∨ regAccess r = .rp → RefusedBy (decodeBus (busWord true (regWoff r) d)) s) ∧
    RefusedBy (.wrIdRefused d) s ∧ RefusedBy (.wrVersionRefused d) s ∧ RefusedBy (.wrParamWinRefused d) s ∧
    RefusedBy (.wrParamBitbufRefused d) s ∧ RefusedBy (.wrParamFifoRefused d) s ∧ RefusedBy (.wrStatusRefused d) s ∧
    RefusedBy (.wrSfifoLevelRefused d) s ∧ RefusedBy (.wrOutDataRefused d) s ∧ RefusedBy (.wrOutLevelRefused d) s ∧
    RefusedBy (.wrSampleCountRefused d) s ∧ RefusedBy (.wrSymbolCountRefused d) s ∧ RefusedBy (.wrDropCountRefused d) s ∧
    RefusedBy (.wrUnkCountRefused d) s ∧ RefusedBy (.wrBitlostCountRefused d) s ∧ RefusedBy (.wrLastPmarkLoRefused d) s ∧
    RefusedBy (.wrLastPmarkHiRefused d) s ∧ RefusedBy (.wrLastPspaceLoRefused d) s ∧ RefusedBy (.wrLastPspaceHiRefused d) s ∧
    RefusedBy (.wrPeakAmpLoRefused d) s ∧ RefusedBy (.wrPeakAmpHiRefused d) s ∧ RefusedBy (.wrSyncResultRefused d) s ∧
    RefusedBy (.wrHeadPosRefused d) s ∧ RefusedBy (.wrTailPosRefused d) s ∧ RefusedBy (.wrPayloadStartRefused d) s ∧
    RefusedBy (.wrPayloadEndRefused d) s ∧ RefusedBy (.wrFrameCountRefused d) s ∧ RefusedBy (.wrFrameErrCountRefused d) s ∧
    RefusedBy (.wrOutTotalRefused d) s ∧ RefusedBy (.wrBitbufDataRefused d) s ∧ RefusedBy (.wrBitbufUnkRefused d) s

/-- Any access to a reserved offset is answered with BUSERR, a read with data 0, and changes nothing. -/
def Obligations.ReservedOffsetsAreRefused : Prop :=
  ∀ (s : State) (d : Word),
    RefusedBy (.wrReservedD4Refused d) s ∧ RefusedBy .rdReservedD4Refused s ∧ RefusedBy (.wrReservedD8Refused d) s ∧
    RefusedBy .rdReservedD8Refused s ∧ RefusedBy (.wrReservedDcRefused d) s ∧ RefusedBy .rdReservedDcRefused s ∧
    RefusedBy (.wrReservedE0Refused d) s ∧ RefusedBy .rdReservedE0Refused s ∧ RefusedBy (.wrReservedE4Refused d) s ∧
    RefusedBy .rdReservedE4Refused s ∧ RefusedBy (.wrReservedE8Refused d) s ∧ RefusedBy .rdReservedE8Refused s ∧
    RefusedBy (.wrReservedEcRefused d) s ∧ RefusedBy .rdReservedEcRefused s ∧ RefusedBy (.wrReservedF0Refused d) s ∧
    RefusedBy .rdReservedF0Refused s ∧ RefusedBy (.wrReservedF4Refused d) s ∧ RefusedBy .rdReservedF4Refused s ∧
    RefusedBy (.wrReservedF8Refused d) s ∧ RefusedBy .rdReservedF8Refused s ∧ RefusedBy (.wrReservedFcRefused d) s ∧
    RefusedBy .rdReservedFcRefused s

/-- A CMD write runs the command its DATA names, and any other DATA only raises CMD_ERR. -/
def Obligations.CommandDispatch : Prop :=
  ∀ (s : State) (d : Word),
    exec (decodeBus (busWord true 6 d)) s =
      (if d.extractLsb' 4 28 ≠ 0 ∨ (d.extractLsb' 0 4).toNat > 4 then
        .next (State.respond { s with events := s.events ||| 1#32 <<< 2 } .ok 0)
      else match (d.extractLsb' 0 4).toNat with
        | 0 => exec .cmdNop s
        | 1 => exec .cmdStart s
        | 2 => exec .cmdEnd s
        | 3 => exec .cmdAbort s
        | _ => exec .cmdSoftReset s) ∧
    LeadsTo .cmdNop s s ∧
    (wellFormed (.cmdReserved d) = true →
      LeadsTo (.cmdReserved d) s { s with events := s.events ||| 1#32 <<< 2 })

/-- START clears the message state and goes to RUN, to ERROR with CFG_ERR, or only raises CMD_ERR with a message open.
That the cleared FPHASE is DRAIN is the model's choice (log 8), not the spec's. -/
def Obligations.StartOpensAMessage : Prop :=
  ∀ s : State,
    (s.state = .run ∨ s.state = .finish → LeadsTo .cmdStart s { s with events := s.events ||| 1#32 <<< 2 }) ∧
    (s.state = .idle ∨ s.state = .done ∨ s.state = .error →
      (validConfig s.params.winMax s.cfg = true →
        LeadsTo .cmdStart s { s with state := .run, msg := (resetOf s).msg }) ∧
      (validConfig s.params.winMax s.cfg = false →
        LeadsTo .cmdStart s
          { s with state := .error, msg := (resetOf s).msg, events := s.events ||| 1#32 <<< 1 }))

/-- The validation of START is the conjunction of V1 to V6. -/
def Obligations.ValidConfigIsV1ToV6 : Prop :=
  (∀ (winMax : Nat) (c : ConfigRegs), validConfig winMax c = true ↔
    c.baud ≠ 0 ∧ c.markFreq ≠ c.spaceFreq ∧
    1 ≤ c.sampleRate.toNat / c.baud.toNat ∧ c.sampleRate.toNat / c.baud.toNat ≤ winMax ∧
    (1 ≤ (c.syncCfg.extractLsb' 0 6).toNat ∧ (c.syncCfg.extractLsb' 0 6).toNat ≤ 32 ∧
      1 ≤ (c.syncCfg.extractLsb' 8 6).toNat ∧ (c.syncCfg.extractLsb' 8 6).toNat ≤ 32) ∧
    c.ctrl.extractLsb' 4 2 ≠ 3) ∧
  validConfig State.reset.params.winMax State.reset.cfg = true

/-- END goes from RUN to FINISH at DRAIN, and raises CMD_ERR in every other state. -/
def Obligations.EndClosesTheMessage : Prop :=
  ∀ s : State,
    (s.state = .run → LeadsTo .cmdEnd s { s with state := .finish, msg := { s.msg with fphase := .drain } }) ∧
    (s.state ≠ .run → LeadsTo .cmdEnd s { s with events := s.events ||| 1#32 <<< 2 })

/-- ABORT clears the message state and goes to IDLE from every state, and changes nothing else.
That the cleared FPHASE is DRAIN is the model's choice (log 8), not the spec's. -/
def Obligations.AbortDiscardsTheMessage : Prop :=
  ∀ s : State, LeadsTo .cmdAbort s { s with state := .idle, msg := (resetOf s).msg } ∧
    ∀ t u : State, exec .cmdAbort s = .next t → exec .cmdAbort t = .next u → u = t.respond .ok 0

/-- SOFT_RESET and the reset input leave every register at its reset value, from every state. The model's own
choices in it, not the spec's: the cleared FPHASE is DRAIN (log 8), the reset input comes from the inbox (log 1), and
the list of responses is kept (log 10). -/
def Obligations.ResetGivesEveryRegisterItsResetValue : Prop :=
  (∀ s : State,
    LeadsTo .cmdSoftReset s (resetOf s) ∧
    (∀ rest : List Input, nextAgent s = .host → s.inbox = .resetLine :: rest →
      step s = .next (resetOf { s with inbox := rest, turns := s.turns.tail, ticks := s.ticks + 1 })) ∧
    irq (resetOf s) = false ∧
    (ParamsLegal s.params → ReadsAs .rdStatus (resetOf s) 0) ∧
    ReadsAs .rdId (resetOf s) 0x47545A31 ∧
    ReadsAs .rdVersion (resetOf s) 0x00010000 ∧
    ReadsAs .rdParamWin (resetOf s) (BitVec.ofNat 32 s.params.winMax) ∧
    ReadsAs .rdParamBitbuf (resetOf s) (BitVec.ofNat 32 s.params.bitbufDepth) ∧
    ReadsAs .rdParamFifo (resetOf s) (BitVec.ofNat 16 s.params.ofifoDepth ++ BitVec.ofNat 16 s.params.sfifoDepth) ∧
    ReadsAs .rdCtrl (resetOf s) 0 ∧
    ReadsAs .rdSampleRate (resetOf s) 48000 ∧
    ReadsAs .rdBaud (resetOf s) 1200 ∧
    ReadsAs .rdMarkFreq (resetOf s) 2200 ∧
    ReadsAs .rdSpaceFreq (resetOf s) 1200 ∧
    ReadsAs .rdBiasLo (resetOf s) 0 ∧
    ReadsAs .rdBiasHi (resetOf s) 0x3FF00000 ∧
    ReadsAs .rdNoiseFloorLo (resetOf s) 0 ∧
    ReadsAs .rdNoiseFloorHi (resetOf s) 0 ∧
    ReadsAs .rdAmpFloorLo (resetOf s) 0 ∧
    ReadsAs .rdAmpFloorHi (resetOf s) 0 ∧
    ReadsAs .rdHeadPat (resetOf s) 0x24 ∧
    ReadsAs .rdTailPat (resetOf s) 0x23 ∧
    ReadsAs .rdSyncCfg (resetOf s) 0x00010808 ∧
    ReadsAs .rdHeadWin (resetOf s) 0 ∧
    ReadsAs .rdTailWin (resetOf s) 0 ∧
    ReadsAs .rdEscape (resetOf s) 0x7D ∧
    ReadsAs .rdEvents (resetOf s) 0 ∧
    ReadsAs .rdIntEn (resetOf s) 0 ∧
    ReadsAs .rdBitbufAddr (resetOf s) 0 ∧
    ReadsAs .rdSfifoLevel (resetOf s) 0 ∧
    ReadsAs .rdOutLevel (resetOf s) 0 ∧
    ReadsAs .rdSampleCount (resetOf s) 0 ∧
    ReadsAs .rdSymbolCount (resetOf s) 0 ∧
    ReadsAs .rdDropCount (resetOf s) 0 ∧
    ReadsAs .rdUnkCount (resetOf s) 0 ∧
    ReadsAs .rdBitlostCount (resetOf s) 0 ∧
    ReadsAs .rdLastPmarkLo (resetOf s) 0 ∧
    ReadsAs .rdLastPmarkHi (resetOf s) 0 ∧
    ReadsAs .rdLastPspaceLo (resetOf s) 0 ∧
    ReadsAs .rdLastPspaceHi (resetOf s) 0 ∧
    ReadsAs .rdPeakAmpLo (resetOf s) 0 ∧
    ReadsAs .rdPeakAmpHi (resetOf s) 0 ∧
    ReadsAs .rdSyncResult (resetOf s) 0 ∧
    ReadsAs .rdHeadPos (resetOf s) 0 ∧
    ReadsAs .rdTailPos (resetOf s) 0 ∧
    ReadsAs .rdPayloadStart (resetOf s) 0 ∧
    ReadsAs .rdPayloadEnd (resetOf s) 0 ∧
    ReadsAs .rdFrameCount (resetOf s) 0 ∧
    ReadsAs .rdFrameErrCount (resetOf s) 0 ∧
    ReadsAs .rdOutTotal (resetOf s) 0 ∧
    ReadsAs .rdOutData (resetOf s) 0 ∧
    ReadsAs .rdBitbufData (resetOf s) 0 ∧
    ReadsAs .rdBitbufUnk (resetOf s) 0) ∧
  resetOf State.reset = State.reset

/-- A configuration write stores DATA through the register mask, and with a message open it is discarded with LOCK_ERR. -/
def Obligations.ConfigurationWritesAreMaskedAndLocked : Prop :=
  ∀ (s : State) (d : Word),
    ConfigWrite (.wrCtrl d) s { s.cfg with ctrl := d &&& 0x0000003F } ∧
    ConfigWrite (.wrSampleRate d) s { s.cfg with sampleRate := d } ∧
    ConfigWrite (.wrBaud d) s { s.cfg with baud := d } ∧
    ConfigWrite (.wrMarkFreq d) s { s.cfg with markFreq := d } ∧
    ConfigWrite (.wrSpaceFreq d) s { s.cfg with spaceFreq := d } ∧
    ConfigWrite (.wrBiasLo d) s { s.cfg with biasLo := d } ∧
    ConfigWrite (.wrBiasHi d) s { s.cfg with biasHi := d } ∧
    ConfigWrite (.wrNoiseFloorLo d) s { s.cfg with noiseFloorLo := d } ∧
    ConfigWrite (.wrNoiseFloorHi d) s { s.cfg with noiseFloorHi := d } ∧
    ConfigWrite (.wrAmpFloorLo d) s { s.cfg with ampFloorLo := d } ∧
    ConfigWrite (.wrAmpFloorHi d) s { s.cfg with ampFloorHi := d } ∧
    ConfigWrite (.wrHeadPat d) s { s.cfg with headPat := d } ∧
    ConfigWrite (.wrTailPat d) s { s.cfg with tailPat := d } ∧
    ConfigWrite (.wrSyncCfg d) s { s.cfg with syncCfg := d &&& 0x003F3F3F } ∧
    ConfigWrite (.wrHeadWin d) s { s.cfg with headWin := d } ∧
    ConfigWrite (.wrTailWin d) s { s.cfg with tailWin := d } ∧
    ConfigWrite (.wrEscape d) s { s.cfg with escape := d &&& 0x000000FF }

/-- SAMPLE_LO, INT_EN and BITBUF_ADDR are written in every state, and nothing else changes. -/
def Obligations.PlainWrites : Prop :=
  ∀ (s : State) (d : Word),
    LeadsTo (.wrSampleLo d) s { s with loLatch := d } ∧
    LeadsTo (.wrIntEn d) s { s with intEn := d &&& 0x1FFF } ∧
    LeadsTo (.wrBitbufAddr d) s { s with bitbufAddr := d } ∧
    ∀ t : State, exec (.wrIntEn d) s = .next t → irq t = decide (s.events &&& (d &&& 0x1FFF) ≠ 0)

/-- A SAMPLE_HI write appends the sample in RUN with room, and otherwise only raises PUSH_ERR or SAMPLE_OVF. -/
def Obligations.PushOffersASample : Prop :=
  ∀ (s : State) (d : Word),
    let x : F64 := d ++ s.loLatch
    (s.state ≠ .run → LeadsTo (.wrSampleHi d) s { s with events := s.events ||| 1#32 <<< 3 }) ∧
    (s.state = .run → s.msg.sfifo.length = s.params.sfifoDepth →
      LeadsTo (.wrSampleHi d) s { s with events := s.events ||| 1#32 <<< 4 }) ∧
    (s.state = .run → s.msg.sfifo.length ≠ s.params.sfifoDepth →
      LeadsTo (.wrSampleHi d) s { s with
        events := if x.extractLsb' 52 11 = 0x7FF then s.events ||| 1#32 <<< 6 else s.events
        msg := { s.msg with sfifo := s.msg.sfifo ++ [x], sampleCount := s.msg.sampleCount + 1 } })

/-- A write of EVENTS clears the event bits written 1 and leaves the others, in every state. -/
def Obligations.EventsWriteClearsWrittenOnes : Prop :=
  ∀ (s : State) (d : Word), ∃ e : Word, LeadsTo (.wrEvents d) s { s with events := e } ∧
    ∀ i, e.getLsbD i = (s.events.getLsbD i && !(decide (i < 13) && d.getLsbD i))

/-- Every read but that of OUT_DATA is free of side effects, and read again at once it returns the same. -/
def Obligations.ReadsHaveNoSideEffect : Prop :=
  ∀ (s : State) (w : BusWord), busRw w = false → busWoff w ≠ 0x1D →
    ∃ (r : Resp) (v : Word), exec (decodeBus w) s = .next (s.respond r v) ∧
      exec (decodeBus w) (s.respond r v) = .next ((s.respond r v).respond r v)

/-- No step faults or is refused, and every transaction gets exactly one response, with read data 0 for a write. -/
def Obligations.EveryStepAnswers : Prop :=
  (∀ s : State, Completes (step s)) ∧
  ∀ (s : State) (i : Instr), ∃ (t : State) (r : Resp) (v : Word), exec i s = .next t ∧
    t.responses = ⟨r, v⟩ :: s.responses ∧ t.inbox = s.inbox ∧ t.turns = s.turns ∧ t.ticks = s.ticks ∧
    (busRw (encode i) = true → v = 0)

/-! ## Encoding -/

/-- Words written out from the transaction format decode to the instructions they stand for. -/
def Obligations.WrittenOutWordsDecode : Prop :=
  decodeBus 0x0000000000#39 = .rdId ∧
  decodeBus 0x4600000001#39 = .cmdStart ∧
  decodeBus 0x4600000011#39 = .cmdReserved 0x11 ∧
  decodeBus 0x5B3FF00000#39 = .wrSampleHi 0x3FF00000 ∧
  decodeBus 0x1D00000000#39 = .rdOutData ∧
  decodeBus 0x56FFFFFFFF#39 = .wrSyncCfg 0xFFFFFFFF ∧
  decodeBus 0x4712345678#39 = .wrStatusRefused 0x12345678 ∧
  decodeBus 0x3500000000#39 = .rdReservedD4Refused

/-- Every 39-bit transaction decodes to a well-formed instruction whose encoding is that transaction, the DATA of a read apart. -/
def Obligations.EveryTransactionHasOneInstruction : Prop :=
  ∀ w : BusWord, wellFormed (decodeBus w) = true ∧
    encode (decodeBus w) = if busRw w then w else busWord false (busWoff w) 0

/-- Every well-formed instruction, with every operand value, is what its encoding decodes to, as a word, as bytes and as a table word. -/
def Obligations.DecodingInvertsEncoding : Prop :=
  (∀ i : Instr, wellFormed i = true →
    decodeBus (encode i) = i ∧
    (∀ rest : List Byte, decodeBytes (encodeBytes i ++ rest) = .ok (i, rest)) ∧
    decodeTableWord 40 (encode i).toNat = some i) ∧
  ∀ b : List Byte, b.length < 5 → decodeBytes b = .error .truncated

/-! ## The engine -/

/-- A turn of the engine does the step of the first matching row of the table, and nothing where no row matches. -/
def Obligations.EngineTurnFollowsTheTable : Prop :=
  ∀ s : State, nextAgent s = .engine →
    let u : State := { s with turns := s.turns.tail, ticks := s.ticks + 1 }
    step s = .next
      (if (s.state = .run ∨ s.state = .finish) ∧ s.msg.sfifo ≠ [] then consumeStep u
      else if s.state = .finish ∧ s.msg.fphase = .drain ∧ s.msg.sfifo = [] then drainStep u
      else if s.state = .finish ∧ s.msg.fphase = .compute then computeStep u
      else if s.state = .finish ∧ s.msg.fphase = .deliver ∧ s.msg.outseq ≠ [] ∧
        s.msg.ofifo.length < s.params.ofifoDepth then deliverStep u
      else if s.state = .finish ∧ s.msg.fphase = .deliver ∧ s.msg.outseq = [] then completeStep u
      else u)

/-- CONSUME moves the oldest sample to the window, raises PEAK where it is larger, and demodulates a full window. -/
def Obligations.ConsumeTakesOneSample : Prop :=
  ∀ (s : State) (x : F64) (rest : List F64), s.state = .run ∨ s.state = .finish → s.msg.sfifo = x :: rest →
    let n := if s.cfg.baud = 0 then 0 else s.cfg.sampleRate.toNat / s.cfg.baud.toNat
    let p := if fgt (fabs x) s.msg.peak then fabs x else s.msg.peak
    engineStep s =
      if s.msg.winbuf.length + 1 = n then
        windowComplete (s.msg.winbuf ++ [x])
          { s with msg := { s.msg with sfifo := rest, peak := p, winbuf := [] } }
      else { s with msg := { s.msg with sfifo := rest, peak := p, winbuf := s.msg.winbuf ++ [x] } }

/-- A completed window sets LAST_PM and LAST_PS and stores, drops or loses one symbol, by gating, comparison, polarity and room. -/
def Obligations.WindowBecomesASymbol : Prop :=
  ∀ (s : State) (w : List F64) (nan : F64),
    let pm := estimate s.params.coeff s.cfg.sampleRate.toNat w s.cfg.markFreq.toNat
    let ps := estimate s.params.coeff s.cfg.sampleRate.toNat w s.cfg.spaceFreq.toNat
    let mode := s.cfg.ctrl.extractLsb' 4 2
    let floor : F64 := s.cfg.noiseFloorHi ++ s.cfg.noiseFloorLo
    let bias : F64 := s.cfg.biasHi ++ s.cfg.biasLo
    let g := mode != 0 && flt pm floor && flt ps floor
    let raw := if s.cfg.ctrl.getLsbD 2 then !fgt ps (fmul nan pm bias) else fgt pm (fmul nan ps bias)
    let bit := raw ^^ s.cfg.ctrl.getLsbD 3
    let u : State := { s with msg := { s.msg with lastPm := pm, lastPs := ps } }
    windowComplete w s =
      if g = true ∧ mode = 1 then { u with msg := { u.msg with dropCount := s.msg.dropCount + 1 } }
      else
        let v : State := if g = true ∧ mode = 2 then { u with msg := { u.msg with unkCount := s.msg.unkCount + 1 } }
          else u
        if s.msg.bitbuf.length < s.params.bitbufDepth then
          { v with msg := { v.msg with bitbuf := s.msg.bitbuf ++ [⟨bit, g⟩] } }
        else { v with
          events := s.events ||| 1#32 <<< 5, msg := { v.msg with bitlostCount := s.msg.bitlostCount + 1 } }

/-- The comparator scales one power by BIAS, for every bias; with bias 1.0 it compares the powers; a NaN power decides by the mode alone. -/
def Obligations.ComparatorOnNaNsTiesAndUnitBias : Prop :=
  (∀ (c : ConfigRegs) (pm ps nan : F64),
    let bias : F64 := c.biasHi ++ c.biasLo
    slice c pm ps = if c.ctrl.getLsbD 2 then !fgt ps (fmul nan pm bias) else fgt pm (fmul nan ps bias)) ∧
  (∀ (c : ConfigRegs) (pm ps : F64), c.biasHi = 0x3FF00000 → c.biasLo = 0 →
    isNaN pm = false → isNaN ps = false →
    slice c pm ps = if c.ctrl.getLsbD 2 then !flt pm ps else flt ps pm) ∧
  ∀ (c : ConfigRegs) (pm ps : F64), isNaN pm = true ∨ isNaN ps = true → slice c pm ps = c.ctrl.getLsbD 2

/-- The estimate is the written Goertzel recurrence with the coefficient of the window's own length; a NaN sample makes it a NaN, never gated. -/
def Obligations.NaNSampleMakesThePowerNaN : Prop :=
  (∀ (draw : Nat → F64) (w : List F64) (c : F64), goertzel draw w c = goertzelWritten draw w c) ∧
  (∀ (choice : CoeffChoice) (fs f : Nat) (w : List F64), ∃ draw : Nat → F64,
    estimate choice fs w f = goertzelWritten draw w (match choice with
      | .default => defaultCoeff (binIndex w.length f fs) w.length
      | .custom which => Config.customCoeff which (binIndex w.length f fs) w.length)) ∧
  (∀ (choice : CoeffChoice) (fs f : Nat) (w : List F64), (∃ x ∈ w, isNaN x = true) →
    isNaN (estimate choice fs w f) = true) ∧
  (∀ (c : ConfigRegs) (pm ps : F64), isNaN pm = true ∨ isNaN ps = true → gated c pm ps = false) ∧
  ∀ (choice : CoeffChoice) (fs f : Nat), estimate choice fs [] f = 0

/-- DRAIN keeps a tail window of at least half a window; DELIVER moves one entry; COMPLETE goes to DONE with its event. -/
def Obligations.DrainDeliverAndComplete : Prop :=
  ∀ s : State, s.state = .finish → s.msg.sfifo = [] →
    (s.msg.fphase = .drain →
      let n := if s.cfg.baud = 0 then 0 else s.cfg.sampleRate.toNat / s.cfg.baud.toNat
      let u : State := { s with msg := { s.msg with winbuf := [], fphase := .compute } }
      engineStep s = if 0 < s.msg.winbuf.length ∧ 2 * s.msg.winbuf.length ≥ n then windowComplete s.msg.winbuf u
        else u) ∧
    (s.msg.fphase = .deliver →
      (∀ (e : Word) (rest : List Word), s.msg.outseq = e :: rest → s.msg.ofifo.length < s.params.ofifoDepth →
        engineStep s = { s with msg := { s.msg with outseq := rest, ofifo := s.msg.ofifo ++ [e] } }) ∧
      (s.msg.outseq = [] → engineStep s = { s with state := .done, events := s.events ||| 1#32 <<< 0 }))

/-- COMPUTE raises WEAK and leaves no output for a weak message, and else synchronises, frames, destuffs and lists the entries. -/
def Obligations.ComputeRunsPhaseTwo : Prop :=
  (∀ s : State, s.state = .finish → s.msg.fphase = .compute → s.msg.sfifo = [] →
    let ampFloor : F64 := s.cfg.ampFloorHi ++ s.cfg.ampFloorLo
    let order : BitOrder := if s.cfg.ctrl.getLsbD 0 then .msbFirst else .lsbFirst
    let escape : Byte := s.cfg.escape.extractLsb' 0 8
    engineStep s =
      if flt s.msg.peak ampFloor then
        { s with events := s.events ||| 1#32 <<< 7, msg := { s.msg with outseq := [], fphase := .deliver } }
      else
        let t := (sync s).1
        match (sync s).2 with
        | none => { t with msg := { t.msg with outseq := [], fphase := .deliver } }
        | some (ps, pe) =>
          let f := decodeFrames ((s.msg.bits.take pe).drop ps) order
          let u := unstuff f.bytes escape
          { t with
            events := if u.2 then t.events ||| 1#32 <<< 11 else t.events
            msg := { t.msg with
              frameCount := BitVec.ofNat 32 f.acc, frameErrCount := BitVec.ofNat 32 f.rej
              outTotal := BitVec.ofNat 32 u.1.length, outseq := u.1.map outEntry, fphase := .deliver } }) ∧
  ∀ p : F64, fSign p = false → flt p 0 = false

/-- With OFIFO full and entries left the engine is held, and only an OUT_DATA read, ABORT or a reset lifts the hold. -/
def Obligations.OutputHoldIsLiftedOnlyByTheHost : Prop :=
  ∀ s : State, Held s →
    engineStep s = s ∧
    (∀ t : State, step s = .next t → Held t ∨ Discards s ∨ action s = .access .rdOutData) ∧
    ∀ t : State, 1 ≤ s.params.ofifoDepth → exec .rdOutData s = .next t → enabledStep t = some .deliver

/-- From FINISH the engine alone reaches DONE, or the output hold, in a bounded number of steps. -/
def Obligations.FinishEndsInDoneOrHold : Prop :=
  ∀ s : State, s.state = .finish → s.msg.ofifo.length ≤ s.params.ofifoDepth →
    ∃ n, n ≤ s.msg.sfifo.length + s.params.ofifoDepth + 3 ∧
      (((engineRun n s).state = .done ∧ (engineRun n s).events.getLsbD 0 = true) ∨ Held (engineRun n s)) ∧
      (engineRun n s).cfg = s.cfg ∧ (engineRun n s).intEn = s.intEn ∧ (engineRun n s).loLatch = s.loLatch ∧
      s.events &&& (engineRun n s).events = s.events

/-- A push that is accepted and END give the same state whether they come before or after a CONSUME. -/
def Obligations.PushAndEndCommuteWithConsume : Prop :=
  ∀ s : State, s.state = .run → s.msg.sfifo ≠ [] →
    (∀ d : Word, s.msg.sfifo.length < s.params.sfifoDepth →
      ∃ t, exec (.wrSampleHi d) s = .next t ∧ exec (.wrSampleHi d) (engineStep s) = .next (engineStep t)) ∧
    ∃ t, exec .cmdEnd s = .next t ∧ exec .cmdEnd (engineStep s) = .next (engineStep t)

/-! ## Arithmetic -/

/-- fadd, fsub and fmul of finite values are the exact result rounded to nearest even; zeros have IEEE signs; infinities and invalid operations. -/
def Obligations.ArithmeticRoundsToNearestEven : Prop :=
  (∀ nan a b : F64, Finite a → Finite b →
    RoundedTo (fVal a + fVal b) 0 (fadd nan a b) ∧
    RoundedTo (fVal a - fVal b) 0 (fsub nan a b) ∧
    RoundedTo (fVal a * fVal b) 1074 (fmul nan a b) ∧
    (fVal a + fVal b = 0 → fSign (fadd nan a b) = (fSign a && fSign b)) ∧
    (fVal a - fVal b = 0 → fSign (fsub nan a b) = (fSign a && !fSign b)) ∧
    fSign (fmul nan a b) = (fSign a != fSign b)) ∧
  (∀ nan a b : F64, isInf a = true → Finite b →
    fadd nan a b = a ∧ fadd nan b a = a ∧ fsub nan a b = a ∧
    (isInf (fsub nan b a) = true ∧ fSign (fsub nan b a) = !fSign a) ∧
    (fVal b = 0 → isNaN (fmul nan a b) = true ∧ isNaN (fmul nan b a) = true) ∧
    (fVal b ≠ 0 → isInf (fmul nan a b) = true ∧ fSign (fmul nan a b) = (fSign a != fSign b) ∧
      fmul nan b a = fmul nan a b)) ∧
  (∀ nan a b : F64, isInf a = true → isInf b = true →
    (fSign a = fSign b → fadd nan a b = a ∧ isNaN (fsub nan a b) = true) ∧
    (fSign a ≠ fSign b → isNaN (fadd nan a b) = true ∧ fsub nan a b = a) ∧
    isInf (fmul nan a b) = true ∧ fSign (fmul nan a b) = (fSign a != fSign b)) ∧
  ∀ nan a b : F64, isNaN a = true ∨ isNaN b = true →
    isNaN (fadd nan a b) = true ∧ isNaN (fsub nan a b) = true ∧ isNaN (fmul nan a b) = true

/-- flt and fgt order finite values by their numbers, put infinities outside, and are false with a NaN; fabs only clears the sign. -/
def Obligations.ComparisonsOrderTheValues : Prop :=
  (∀ a b : F64, Finite a → Finite b →
    flt a b = decide (fVal a < fVal b) ∧ fgt a b = decide (fVal b < fVal a)) ∧
  (∀ a b : F64, isNaN a = true ∨ isNaN b = true → flt a b = false ∧ fgt a b = false) ∧
  (∀ a : F64, Finite a → flt a 0x7FF0000000000000 = true ∧ fgt a 0xFFF0000000000000 = true) ∧
  ∀ (a : F64) (i : Nat), (fabs a).getLsbD i = (decide (i ≠ 63) && a.getLsbD i)

/-- The bin index is the integer nearest to L·f / fs, the even one on a tie. -/
def Obligations.BinIndexIsNearestEven : Prop :=
  ∀ len f fs : Nat, 1 ≤ fs →
    2 * ((len * f : Int) - (binIndex len f fs * fs : Int)).natAbs ≤ fs ∧
    (2 * ((len * f : Int) - (binIndex len f fs * fs : Int)).natAbs = fs → binIndex len f fs % 2 = 0)

/-- The default coefficient is exactly 2, 1, 0, -1 or -2 at the bins where the real value is. -/
def Obligations.CoefficientIsExactWhereItCanBe : Prop :=
  ∀ k len : Nat, 1 ≤ len →
    (k % len = 0 → defaultCoeff k len = f64 0x40000000 0) ∧
    (6 * (k % len) = len ∨ 6 * (k % len) = 5 * len → defaultCoeff k len = f64 0x3FF00000 0) ∧
    (4 * (k % len) = len ∨ 4 * (k % len) = 3 * len → defaultCoeff k len = f64 0 0) ∧
    (3 * (k % len) = len ∨ 3 * (k % len) = 2 * len → defaultCoeff k len = f64 0xBFF00000 0) ∧
    (2 * (k % len) = len → defaultCoeff k len = f64 0xC0000000 0)

/-- The default coefficient is within 2^-52 of 2·cos(2·pi·k/L) for every length up to the largest WIN_MAX. -/
def Obligations.CoefficientIsNearTheCosine : Prop :=
  ∀ k len : Nat, 1 ≤ len → len ≤ 2 ^ 16 →
    Finite (defaultCoeff k len) ∧
    |(fVal (defaultCoeff k len) : ℝ) / 2 ^ 1074 - 2 * Real.cos (2 * Real.pi * k / len)| ≤ 1 / 2 ^ 52

/-! ## Synchronisation, framing and destuffing -/

/-- A marker is its register's low M bits, highest first; the candidates are the positions whose window fits and lies in the search window. -/
def Obligations.MarkersAndCandidatePositions : Prop :=
  (∀ (pat : Word) (m : Nat), 1 ≤ m → m ≤ 32 → (markerBits pat m).length = m ∧
    ∀ j < m, (markerBits pat m)[j]? = some (pat.getLsbD (m - 1 - j))) ∧
  (∀ (c : ConfigRegs) (b : List Bool),
    headSearch c b = locate b (markerBits c.headPat (c.syncCfg.extractLsb' 0 6).toNat)
      (c.syncCfg.extractLsb' 16 6).toNat c.headWin.toNat ∧
    tailSearch c b = locate b (markerBits c.tailPat (c.syncCfg.extractLsb' 8 6).toNat)
      (c.syncCfg.extractLsb' 16 6).toNat c.tailWin.toNat) ∧
  ∀ n m w : Nat, (∀ p, p ∈ candidates n m w ↔ p + m ≤ n ∧ (w = 0 ∨ p < w)) ∧ (candidates n m w).Pairwise (· < ·)

/-- The Hamming distance at a candidate is the number of marker bits that differ from the stream there. -/
def Obligations.HammingCountsTheDifferences : Prop :=
  ∀ (b m : List Bool) (p : Nat), p + m.length ≤ b.length →
    hamming b m p = ((List.range m.length).filter fun j => b.getD (p + j) false != m.getD j false).length ∧
    hamming b m p ≤ m.length

/-- locate returns the candidate of least distance within the tolerance, the earliest of equals, and none where there is none. -/
def Obligations.LocateFindsTheEarliestBestMatch : Prop :=
  ∀ (b m : List Bool) (e w : Nat),
    (∀ p d, locate b m e w = some (p, d) ↔
      p ∈ candidates b.length m.length w ∧ d = hamming b m p ∧ d ≤ e ∧
      ∀ q ∈ candidates b.length m.length w, (q < p → d < hamming b m q) ∧ (p < q → d ≤ hamming b m q)) ∧
    (locate b m e w = none ↔ ∀ q ∈ candidates b.length m.length w, e < hamming b m q)

/-- The synchronizer sets SYNC_RESULT, the positions, the payload and the miss events as the policy table says. -/
def Obligations.SyncWritesByThePolicy : Prop :=
  ∀ s : State,
    let b := s.msg.bits
    let strict := s.cfg.ctrl.getLsbD 1
    let wrote (ev sr hp tp ps pe : Word) : State := { s with
      events := s.events ||| ev
      msg := { s.msg with
        syncResult := sr, headPos := hp, tailPos := tp, payloadStart := ps, payloadEnd := pe } }
    let pos (n : Nat) : Word := BitVec.ofNat 32 n
    let headLen := (s.cfg.syncCfg.extractLsb' 0 6).toNat
    let tailLen := (s.cfg.syncCfg.extractLsb' 8 6).toNat
    let maxErr := (s.cfg.syncCfg.extractLsb' 16 6).toNat
    match locate b (markerBits s.cfg.headPat headLen) maxErr s.cfg.headWin.toNat with
    | none =>
      if strict then sync s = (wrote (1#32 <<< 8 ||| 1#32 <<< 10) 0 0 0 0 0, none)
      else sync s = (wrote (1#32 <<< 8) 0 0 0 0 (pos b.length), some (0, b.length))
    | some (ph, eh) =>
      let st := ph + headLen
      match locate (b.drop st) (markerBits s.cfg.tailPat tailLen) maxErr s.cfg.tailWin.toNat with
      | none =>
        ∃ sr : Word, (∀ i, i < 8 ∨ 14 ≤ i → sr.getLsbD i = (i == 0 || i == 2)) ∧
          (sr.extractLsb' 8 6).toNat = eh ∧
          if strict then sync s = (wrote (1#32 <<< 9 ||| 1#32 <<< 10) sr (pos ph) 0 0 0, none)
          else sync s = (wrote (1#32 <<< 9) sr (pos ph) 0 (pos st) (pos b.length), some (st, b.length))
      | some (pt, et) =>
        ∃ sr : Word, (∀ i, i < 8 ∨ i = 14 ∨ i = 15 ∨ 22 ≤ i → sr.getLsbD i = (i == 0 || i == 1 || i == 2)) ∧
          (sr.extractLsb' 8 6).toNat = eh ∧ (sr.extractLsb' 16 6).toNat = et ∧
          sync s = (wrote 0 sr (pos ph) (pos (st + pt)) (pos st) (pos (st + pt)), some (st, st + pt))

/-- The payload that the synchronizer finds lies within the bit stream. -/
def Obligations.PayloadLiesInTheStream : Prop :=
  ∀ (s : State) (ps pe : Nat), (sync s).2 = some (ps, pe) → ps ≤ pe ∧ pe ≤ s.msg.bits.length

/-- The framer computes the framing loop as the rule writes it, with the bytes assembled as the sums of their shifted bits. -/
def Obligations.FramerIsTheWrittenLoop : Prop :=
  ∀ (order : BitOrder) (b : List Bool), decodeFrames b order = framerLoop order b (b.length + 1) 0 [] 0 0

/-- Framing any bytes into 10-bit units and decoding them gives the bytes back, with no slip. -/
def Obligations.FramingRoundTrip : Prop :=
  ∀ (order : BitOrder) (bytes : List Byte), decodeFrames (frameBytes order bytes) order = ⟨bytes, bytes.length, 0⟩

/-- The destuffer computes the automaton as the rule writes it, the pending test before the escape test. -/
def Obligations.DestufferIsTheWrittenLoop : Prop :=
  ∀ (e : Byte) (y : List Byte), unstuff y e = y.foldl (destuffRound e) ([], false)

/-- Destuffing inverts stuffing for every byte sequence and escape byte, and keeps a sequence without the escape byte. -/
def Obligations.DestuffingInvertsStuffing : Prop :=
  ∀ (e : Byte) (bytes : List Byte), unstuff (stuff e bytes) e = (bytes, false) ∧
    (e ∉ bytes → unstuff bytes e = (bytes, false))

/-- An output entry has VALID set, PRINT exactly for bytes from 32 to 126, and the byte itself. -/
def Obligations.OutputEntryFormat : Prop :=
  ∀ b : Byte, outEntry b =
    0x80000000#32 ||| (if 32 ≤ b.toNat ∧ b.toNat ≤ 126 then 1#32 else 0#32) <<< 8 ||| b.setWidth 32

/-- A head marker, the framed and stuffed bytes and a tail marker decode to exactly those bytes, delivered in order, with no event but DONE. -/
def Obligations.MessageDecodesToItsBytes : Prop :=
  ∀ (s : State) (bytes : List Byte) (after : List Bool),
    let headLen := (s.cfg.syncCfg.extractLsb' 0 6).toNat
    let tailLen := (s.cfg.syncCfg.extractLsb' 8 6).toNat
    let ampFloor : F64 := s.cfg.ampFloorHi ++ s.cfg.ampFloorLo
    let order : BitOrder := if s.cfg.ctrl.getLsbD 0 then .msbFirst else .lsbFirst
    let escape : Byte := s.cfg.escape.extractLsb' 0 8
    let head := markerBits s.cfg.headPat headLen
    let tail := markerBits s.cfg.tailPat tailLen
    let frames := frameBytes order (stuff escape bytes)
    s.state = .finish → s.msg.fphase = .compute → s.msg.sfifo = [] →
    flt s.msg.peak ampFloor = false →
    s.msg.bits = head ++ frames ++ tail ++ after → s.msg.bits.length < 2 ^ 32 →
    (s.cfg.tailWin = 0 ∨ frames.length < s.cfg.tailWin.toNat) →
    (∀ q < frames.length, hamming (frames ++ tail ++ after) tail q ≠ 0) →
    let t := engineStep s
    (t.msg.outseq = bytes.map outEntry ∧ t.msg.outTotal.toNat = bytes.length ∧
      t.msg.frameCount.toNat = (stuff escape bytes).length ∧ t.msg.frameErrCount = 0 ∧
      t.msg.syncResult = 7 ∧ t.msg.headPos = 0 ∧ t.msg.payloadStart.toNat = headLen ∧
      t.msg.payloadEnd.toNat = headLen + frames.length ∧ t.msg.tailPos = t.msg.payloadEnd ∧
      t.events = s.events) ∧
    (s.msg.ofifo.length + bytes.length ≤ s.params.ofifoDepth →
      let u := engineRun (bytes.length + 2) s
      u.state = .done ∧ u.msg.ofifo = s.msg.ofifo ++ bytes.map outEntry ∧ u.msg.outseq = [] ∧
      u.events = s.events ||| 1)

/-! ## The whole machine -/

/-- Every step, of the host, the platform or the engine, keeps the invariant of the reachable states. -/
def Obligations.EveryStepKeepsTheInvariant : Prop :=
  ∀ s t : State, Inv s → step s = .next t → Inv t

/-- The state after reset meets the invariant. -/
def Obligations.ResetMeetsTheInvariant : Prop :=
  Inv State.reset

/-- STATE changes only by START, END, ABORT, a reset and COMPLETE, from and to the states the rules name. -/
def Obligations.StateChangesOnlyAsTheCommandsSay : Prop :=
  ∀ s t : State, step s = .next t → t.state ≠ s.state →
    (action s = .access .cmdStart ∧ (s.state = .idle ∨ s.state = .done ∨ s.state = .error) ∧
      ((validConfig s.params.winMax s.cfg = true ∧ t.state = .run) ∨
        (validConfig s.params.winMax s.cfg = false ∧ t.state = .error ∧ t.events.getLsbD 1 = true))) ∨
    (action s = .access .cmdEnd ∧ s.state = .run ∧ t.state = .finish ∧ t.msg.fphase = .drain) ∨
    (Discards s ∧ t.state = .idle) ∨
    (action s = .engine .complete ∧ s.state = .finish ∧ t.state = .done ∧ t.events.getLsbD 0 = true)

/-- A set event bit stays set until the host writes 1 to it or a reset occurs. -/
def Obligations.EventsAreSticky : Prop :=
  ∀ (s t : State) (i : Nat), step s = .next t → s.events.getLsbD i = true → t.events.getLsbD i = false →
    (∃ d : Word, action s = .access (.wrEvents d) ∧ d.getLsbD i = true) ∨
    action s = .access .cmdSoftReset ∨ action s = .resetLine

/-- A step sets no event bit but those the table of simultaneous events lists for it. -/
def Obligations.EventsComeOnlyFromTheirCauses : Prop :=
  ∀ (s t : State) (i : Nat), step s = .next t → s.events.getLsbD i = false → t.events.getLsbD i = true →
    (i = 0 ∧ action s = .engine .complete) ∨
    (i = 1 ∧ action s = .access .cmdStart) ∨
    (i = 2 ∧ (action s = .access .cmdStart ∨ action s = .access .cmdEnd ∨
      ∃ d : Word, action s = .access (.cmdReserved d))) ∨
    ((i = 3 ∨ i = 4 ∨ i = 6) ∧ ∃ d : Word, action s = .access (.wrSampleHi d)) ∨
    (i = 5 ∧ (action s = .engine .consume ∨ action s = .engine .drain)) ∨
    ((i = 7 ∨ i = 8 ∨ i = 9 ∨ i = 10 ∨ i = 11) ∧ action s = .engine .compute) ∨
    (i = 12 ∧ s.isOpen = true ∧ ∃ (r : CfgReg) (d : Word),
      action s = .access (decodeBus (busWord true (cfgWoff r) d)))

/-- From START to the end of FINISH no step but a reset changes a configuration register. -/
def Obligations.ConfigurationIsFrozenWhileOpen : Prop :=
  (∀ s t : State, step s = .next t → s.state = .run ∨ s.state = .finish →
    action s ≠ .access .cmdSoftReset → action s ≠ .resetLine → t.cfg = s.cfg) ∧
  ∀ s : State, (engineStep s).cfg = s.cfg

/-- LO_LATCH, INT_EN and BITBUF_ADDR change only by their own writes and by a reset, and the parameters never. -/
def Obligations.RegistersChangeOnlyByTheirWrites : Prop :=
  ∀ s t : State, step s = .next t →
    t.params = s.params ∧
    (action s ≠ .access .cmdSoftReset → action s ≠ .resetLine →
      ((∀ d : Word, action s ≠ .access (.wrSampleLo d)) → t.loLatch = s.loLatch) ∧
      ((∀ d : Word, action s ≠ .access (.wrIntEn d)) → t.intEn = s.intEn) ∧
      ((∀ d : Word, action s ≠ .access (.wrBitbufAddr d)) → t.bitbufAddr = s.bitbufAddr))

/-- Within a message the stored bit stream only grows at its end. -/
def Obligations.BitStreamOnlyGrows : Prop :=
  ∀ s t : State, step s = .next t → s.state = .run ∨ s.state = .finish → ¬ Discards s →
    s.msg.bitbuf <+: t.msg.bitbuf ∧ t.msg.bitbuf.length ≤ s.msg.bitbuf.length + 1

/-- The eight results of phase 2 change only by COMPUTE, START, ABORT and a reset. -/
def Obligations.ResultsAreFinalAfterCompute : Prop :=
  ∀ s t : State, step s = .next t → action s ≠ .access .cmdStart → ¬ Discards s →
    (action s ≠ .engine .compute → t.msg.results = s.msg.results) ∧
    (action s = .engine .compute → t.msg.fphase = .deliver) ∧
    (s.msg.fphase = .deliver → action s ≠ .access .cmdEnd → t.msg.fphase = .deliver)

/-- An enabled engine step stays enabled until it is taken, and it is eventually taken, but for ABORT and a reset. -/
def Obligations.EnabledEngineStepStaysEnabled : Prop :=
  (∀ (s t : State) (e : EngineStep), enabledStep s = some e → step s = .next t →
    action s ≠ .engine e → ¬ Discards s → enabledStep t = some e) ∧
  ∀ (s : State) (e : EngineStep), enabledStep s = some e →
    ∃ n, (action (stepsFrom n s) = .engine e ∨ Discards (stepsFrom n s)) ∧
      ∀ m ≤ n, enabledStep (stepsFrom m s) = some e
end

