-- ==== Sys2Proof/Laws/Decode.lean ====
section
/-! SUPPORT. The fields of a bus transaction, and what the bytes of one decode to. -/

namespace Sys2Proof

/-- Which bit of which field a bit of a transaction is. -/
theorem busWord_getLsbD (rw : Bool) (woff : BitVec 6) (data : Word) (i : Nat) :
    (busWord rw woff data).getLsbD i =
      if i < 32 then data.getLsbD i else if i < 38 then woff.getLsbD (i - 32) else (decide (i = 38) && rw) := by
  simp only [busWord, BitVec.getLsbD_append, BitVec.getLsbD_ofBool]
  by_cases h1 : i < 32
  · simp only [h1, if_true]
  · by_cases h2 : i < 38
    · have h3 : i - 32 < 6 := by omega
      simp only [h1, h2, h3, if_true, if_false]
    · have h3 : ¬ i - 32 < 6 := by omega
      have h4 : (i - 32 - 6 = 0) = (i = 38) := by apply propext; omega
      simp only [h1, h2, h3, h4, if_false]

@[simp] theorem busRw_busWord (rw : Bool) (woff : BitVec 6) (data : Word) : busRw (busWord rw woff data) = rw := by
  rw [busRw, busWord_getLsbD]; rfl

@[simp] theorem busWoff_busWord (rw : Bool) (woff : BitVec 6) (data : Word) :
    busWoff (busWord rw woff data) = woff := by
  apply BitVec.eq_of_getLsbD_eq
  intro i hi
  have h1 : ¬ 32 + i < 32 := by omega
  have h2 : 32 + i < 38 := by omega
  rw [busWoff, BitVec.getLsbD_extractLsb', busWord_getLsbD, if_neg h1, if_pos h2, Nat.add_sub_cancel_left]
  simp [hi]

@[simp] theorem busData_busWord (rw : Bool) (woff : BitVec 6) (data : Word) :
    busData (busWord rw woff data) = data := by
  apply BitVec.eq_of_getLsbD_eq
  intro i hi
  rw [busData, BitVec.getLsbD_extractLsb', busWord_getLsbD, Nat.zero_add, if_pos hi]
  simp [hi]

/-- A transaction is its fields. -/
theorem busWord_fields (w : BusWord) : busWord (busRw w) (busWoff w) (busData w) = w := by
  apply BitVec.eq_of_getLsbD_eq
  intro i hi
  rw [busWord_getLsbD, busRw, busWoff, busData, BitVec.getLsbD_extractLsb', BitVec.getLsbD_extractLsb']
  by_cases h1 : i < 32
  · simp only [h1, if_true, decide_true, Bool.true_and, Nat.zero_add]
  · by_cases h2 : i < 38
    · have h3 : i - 32 < 6 := by omega
      have h4 : 32 + (i - 32) = i := by omega
      simp only [h1, h2, h3, h4, if_true, if_false, decide_true, Bool.true_and]
    · have h3 : i = 38 := by omega
      subst h3; rfl

/-- The mask of every row but the five command rows keeps RW and WOFF. -/
theorem busWord_and_rowMask (rw : Bool) (woff : BitVec 6) (data : Word) :
    busWord rw woff data &&& 0x7F00000000#39 = busWord rw woff 0 := by
  have h : (0x7F00000000#39 : BusWord) = busWord true (BitVec.allOnes 6) 0 := by decide
  rw [h]
  apply BitVec.eq_of_getLsbD_eq
  intro i hi
  rw [BitVec.getLsbD_and, busWord_getLsbD, busWord_getLsbD, busWord_getLsbD]
  by_cases h1 : i < 32
  · simp only [h1, if_true]
    have h0 : (0 : Word).getLsbD i = false := BitVec.getLsbD_zero
    rw [h0, Bool.and_false]
  · by_cases h2 : i < 38
    · have h3 : i - 32 < 6 := by omega
      simp only [h1, h2, if_true, if_false, BitVec.getLsbD_allOnes, h3, decide_true, Bool.and_true]
    · simp only [h1, h2, if_false]
      cases rw <;> simp

/-- What 5 bytes with a transaction's value decode to. -/
theorem decodeBytes_of_value {bytes rest : List Byte} (hl : bytes.length = 5) {w : BusWord}
    (hv : bytesValue bytes = w.toNat) : decodeBytes (bytes ++ rest) = .ok (decodeBus w, rest) := by
  have h5 : ¬ (bytes ++ rest).length < 5 := by simp [hl]
  have ht : (bytes ++ rest).take 5 = bytes := by rw [← hl]; simp
  have hd : (bytes ++ rest).drop 5 = rest := by rw [← hl]; simp
  simp only [decodeBytes, h5, if_false, ht, hd, hv, w.isLt, if_true]
  simp

@[simp] theorem toBytes_length (n v : Nat) : (toBytes n v).length = n := by
  induction n generalizing v with
  | zero => rfl
  | succ n ih => simp [toBytes, ih]

theorem bytesValue_toBytes (n v : Nat) : bytesValue (toBytes n v) = v % 256 ^ n := by
  induction n generalizing v with
  | zero => simp [toBytes, bytesValue, Nat.mod_one]
  | succ n ih =>
    rw [toBytes, bytesValue, ih, Nat.pow_succ, Nat.mul_comm (256 ^ n), Nat.mod_mul]
    simp

end Sys2Proof
end

