-- ==== Sys2Proof/Laws/State.lean ====
section
/-! SUPPORT. One lemma per field of State and update, so that no proof unfolds a record update. -/

namespace Sys2Proof.Machine

@[simp] theorem raise_params (s : State) (e : Event) : (s.raise e).params = s.params := rfl
@[simp] theorem raise_state (s : State) (e : Event) : (s.raise e).state = s.state := rfl
@[simp] theorem raise_cfg (s : State) (e : Event) : (s.raise e).cfg = s.cfg := rfl
@[simp] theorem raise_events (s : State) (e : Event) : (s.raise e).events = s.events ||| eventBit e := rfl
@[simp] theorem raise_intEn (s : State) (e : Event) : (s.raise e).intEn = s.intEn := rfl
@[simp] theorem raise_bitbufAddr (s : State) (e : Event) : (s.raise e).bitbufAddr = s.bitbufAddr := rfl
@[simp] theorem raise_loLatch (s : State) (e : Event) : (s.raise e).loLatch = s.loLatch := rfl
@[simp] theorem raise_msg (s : State) (e : Event) : (s.raise e).msg = s.msg := rfl
@[simp] theorem raise_inbox (s : State) (e : Event) : (s.raise e).inbox = s.inbox := rfl
@[simp] theorem raise_turns (s : State) (e : Event) : (s.raise e).turns = s.turns := rfl
@[simp] theorem raise_ticks (s : State) (e : Event) : (s.raise e).ticks = s.ticks := rfl
@[simp] theorem raise_responses (s : State) (e : Event) : (s.raise e).responses = s.responses := rfl

@[simp] theorem respond_params (s : State) (r : Resp) (v : Word) : (s.respond r v).params = s.params := rfl
@[simp] theorem respond_state (s : State) (r : Resp) (v : Word) : (s.respond r v).state = s.state := rfl
@[simp] theorem respond_cfg (s : State) (r : Resp) (v : Word) : (s.respond r v).cfg = s.cfg := rfl
@[simp] theorem respond_events (s : State) (r : Resp) (v : Word) : (s.respond r v).events = s.events := rfl
@[simp] theorem respond_intEn (s : State) (r : Resp) (v : Word) : (s.respond r v).intEn = s.intEn := rfl
@[simp] theorem respond_bitbufAddr (s : State) (r : Resp) (v : Word) : (s.respond r v).bitbufAddr = s.bitbufAddr := rfl
@[simp] theorem respond_loLatch (s : State) (r : Resp) (v : Word) : (s.respond r v).loLatch = s.loLatch := rfl
@[simp] theorem respond_msg (s : State) (r : Resp) (v : Word) : (s.respond r v).msg = s.msg := rfl
@[simp] theorem respond_inbox (s : State) (r : Resp) (v : Word) : (s.respond r v).inbox = s.inbox := rfl
@[simp] theorem respond_turns (s : State) (r : Resp) (v : Word) : (s.respond r v).turns = s.turns := rfl
@[simp] theorem respond_ticks (s : State) (r : Resp) (v : Word) : (s.respond r v).ticks = s.ticks := rfl
@[simp] theorem respond_responses (s : State) (r : Resp) (v : Word) : (s.respond r v).responses = ⟨r, v⟩ :: s.responses := rfl

@[simp] theorem clearMessage_params (s : State) : (s.clearMessage).params = s.params := rfl
@[simp] theorem clearMessage_state (s : State) : (s.clearMessage).state = s.state := rfl
@[simp] theorem clearMessage_cfg (s : State) : (s.clearMessage).cfg = s.cfg := rfl
@[simp] theorem clearMessage_events (s : State) : (s.clearMessage).events = s.events := rfl
@[simp] theorem clearMessage_intEn (s : State) : (s.clearMessage).intEn = s.intEn := rfl
@[simp] theorem clearMessage_bitbufAddr (s : State) : (s.clearMessage).bitbufAddr = s.bitbufAddr := rfl
@[simp] theorem clearMessage_loLatch (s : State) : (s.clearMessage).loLatch = s.loLatch := rfl
@[simp] theorem clearMessage_msg (s : State) : (s.clearMessage).msg = Message.clear := rfl
@[simp] theorem clearMessage_inbox (s : State) : (s.clearMessage).inbox = s.inbox := rfl
@[simp] theorem clearMessage_turns (s : State) : (s.clearMessage).turns = s.turns := rfl
@[simp] theorem clearMessage_ticks (s : State) : (s.clearMessage).ticks = s.ticks := rfl
@[simp] theorem clearMessage_responses (s : State) : (s.clearMessage).responses = s.responses := rfl

@[simp] theorem takeTurn_params (s : State) : (s.takeTurn).params = s.params := rfl
@[simp] theorem takeTurn_state (s : State) : (s.takeTurn).state = s.state := rfl
@[simp] theorem takeTurn_cfg (s : State) : (s.takeTurn).cfg = s.cfg := rfl
@[simp] theorem takeTurn_events (s : State) : (s.takeTurn).events = s.events := rfl
@[simp] theorem takeTurn_intEn (s : State) : (s.takeTurn).intEn = s.intEn := rfl
@[simp] theorem takeTurn_bitbufAddr (s : State) : (s.takeTurn).bitbufAddr = s.bitbufAddr := rfl
@[simp] theorem takeTurn_loLatch (s : State) : (s.takeTurn).loLatch = s.loLatch := rfl
@[simp] theorem takeTurn_msg (s : State) : (s.takeTurn).msg = s.msg := rfl
@[simp] theorem takeTurn_inbox (s : State) : (s.takeTurn).inbox = s.inbox := rfl
@[simp] theorem takeTurn_turns (s : State) : (s.takeTurn).turns = s.turns.tail := rfl
@[simp] theorem takeTurn_ticks (s : State) : (s.takeTurn).ticks = s.ticks + 1 := rfl
@[simp] theorem takeTurn_responses (s : State) : (s.takeTurn).responses = s.responses := rfl

@[simp] theorem popOutput_params (s : State) : (popOutput s).params = s.params := rfl
@[simp] theorem popOutput_state (s : State) : (popOutput s).state = s.state := rfl
@[simp] theorem popOutput_cfg (s : State) : (popOutput s).cfg = s.cfg := rfl
@[simp] theorem popOutput_events (s : State) : (popOutput s).events = s.events := rfl
@[simp] theorem popOutput_intEn (s : State) : (popOutput s).intEn = s.intEn := rfl
@[simp] theorem popOutput_bitbufAddr (s : State) : (popOutput s).bitbufAddr = s.bitbufAddr := rfl
@[simp] theorem popOutput_loLatch (s : State) : (popOutput s).loLatch = s.loLatch := rfl
@[simp] theorem popOutput_msg (s : State) : (popOutput s).msg = { s.msg with ofifo := s.msg.ofifo.tail } := rfl
@[simp] theorem popOutput_inbox (s : State) : (popOutput s).inbox = s.inbox := rfl
@[simp] theorem popOutput_turns (s : State) : (popOutput s).turns = s.turns := rfl
@[simp] theorem popOutput_ticks (s : State) : (popOutput s).ticks = s.ticks := rfl
@[simp] theorem popOutput_responses (s : State) : (popOutput s).responses = s.responses := rfl

@[simp] theorem clearEvents_params (d : Word) (s : State) : (clearEvents d s).params = s.params := rfl
@[simp] theorem clearEvents_state (d : Word) (s : State) : (clearEvents d s).state = s.state := rfl
@[simp] theorem clearEvents_cfg (d : Word) (s : State) : (clearEvents d s).cfg = s.cfg := rfl
@[simp] theorem clearEvents_events (d : Word) (s : State) : (clearEvents d s).events = s.events &&& ~~~(d &&& intEnMask) := rfl
@[simp] theorem clearEvents_intEn (d : Word) (s : State) : (clearEvents d s).intEn = s.intEn := rfl
@[simp] theorem clearEvents_bitbufAddr (d : Word) (s : State) : (clearEvents d s).bitbufAddr = s.bitbufAddr := rfl
@[simp] theorem clearEvents_loLatch (d : Word) (s : State) : (clearEvents d s).loLatch = s.loLatch := rfl
@[simp] theorem clearEvents_msg (d : Word) (s : State) : (clearEvents d s).msg = s.msg := rfl
@[simp] theorem clearEvents_inbox (d : Word) (s : State) : (clearEvents d s).inbox = s.inbox := rfl
@[simp] theorem clearEvents_turns (d : Word) (s : State) : (clearEvents d s).turns = s.turns := rfl
@[simp] theorem clearEvents_ticks (d : Word) (s : State) : (clearEvents d s).ticks = s.ticks := rfl
@[simp] theorem clearEvents_responses (d : Word) (s : State) : (clearEvents d s).responses = s.responses := rfl

@[simp] theorem setPayload_params (a b : Nat) (s : State) : (setPayload a b s).params = s.params := rfl
@[simp] theorem setPayload_state (a b : Nat) (s : State) : (setPayload a b s).state = s.state := rfl
@[simp] theorem setPayload_cfg (a b : Nat) (s : State) : (setPayload a b s).cfg = s.cfg := rfl
@[simp] theorem setPayload_events (a b : Nat) (s : State) : (setPayload a b s).events = s.events := rfl
@[simp] theorem setPayload_intEn (a b : Nat) (s : State) : (setPayload a b s).intEn = s.intEn := rfl
@[simp] theorem setPayload_bitbufAddr (a b : Nat) (s : State) : (setPayload a b s).bitbufAddr = s.bitbufAddr := rfl
@[simp] theorem setPayload_loLatch (a b : Nat) (s : State) : (setPayload a b s).loLatch = s.loLatch := rfl
@[simp] theorem setPayload_msg (a b : Nat) (s : State) : (setPayload a b s).msg = { s.msg with payloadStart := BitVec.ofNat 32 a, payloadEnd := BitVec.ofNat 32 b } := rfl
@[simp] theorem setPayload_inbox (a b : Nat) (s : State) : (setPayload a b s).inbox = s.inbox := rfl
@[simp] theorem setPayload_turns (a b : Nat) (s : State) : (setPayload a b s).turns = s.turns := rfl
@[simp] theorem setPayload_ticks (a b : Nat) (s : State) : (setPayload a b s).ticks = s.ticks := rfl
@[simp] theorem setPayload_responses (a b : Nat) (s : State) : (setPayload a b s).responses = s.responses := rfl

@[simp] theorem emptyOutput_params (s : State) : (emptyOutput s).params = s.params := rfl
@[simp] theorem emptyOutput_state (s : State) : (emptyOutput s).state = s.state := rfl
@[simp] theorem emptyOutput_cfg (s : State) : (emptyOutput s).cfg = s.cfg := rfl
@[simp] theorem emptyOutput_events (s : State) : (emptyOutput s).events = s.events := rfl
@[simp] theorem emptyOutput_intEn (s : State) : (emptyOutput s).intEn = s.intEn := rfl
@[simp] theorem emptyOutput_bitbufAddr (s : State) : (emptyOutput s).bitbufAddr = s.bitbufAddr := rfl
@[simp] theorem emptyOutput_loLatch (s : State) : (emptyOutput s).loLatch = s.loLatch := rfl
@[simp] theorem emptyOutput_msg (s : State) : (emptyOutput s).msg = { s.msg with outseq := [] } := rfl
@[simp] theorem emptyOutput_inbox (s : State) : (emptyOutput s).inbox = s.inbox := rfl
@[simp] theorem emptyOutput_turns (s : State) : (emptyOutput s).turns = s.turns := rfl
@[simp] theorem emptyOutput_ticks (s : State) : (emptyOutput s).ticks = s.ticks := rfl
@[simp] theorem emptyOutput_responses (s : State) : (emptyOutput s).responses = s.responses := rfl

@[simp] theorem resetBlock_params (s : State) : (resetBlock s).params = s.params := rfl
@[simp] theorem resetBlock_state (s : State) : (resetBlock s).state = .idle := rfl
@[simp] theorem resetBlock_cfg (s : State) : (resetBlock s).cfg = ConfigRegs.reset := rfl
@[simp] theorem resetBlock_events (s : State) : (resetBlock s).events = 0 := rfl
@[simp] theorem resetBlock_intEn (s : State) : (resetBlock s).intEn = 0 := rfl
@[simp] theorem resetBlock_bitbufAddr (s : State) : (resetBlock s).bitbufAddr = 0 := rfl
@[simp] theorem resetBlock_loLatch (s : State) : (resetBlock s).loLatch = 0 := rfl
@[simp] theorem resetBlock_msg (s : State) : (resetBlock s).msg = Message.clear := rfl
@[simp] theorem resetBlock_inbox (s : State) : (resetBlock s).inbox = s.inbox := rfl
@[simp] theorem resetBlock_turns (s : State) : (resetBlock s).turns = s.turns := rfl
@[simp] theorem resetBlock_ticks (s : State) : (resetBlock s).ticks = s.ticks := rfl
@[simp] theorem resetBlock_responses (s : State) : (resetBlock s).responses = s.responses := rfl

@[simp] theorem abortMessage_params (s : State) : (abortMessage s).params = s.params := rfl
@[simp] theorem abortMessage_state (s : State) : (abortMessage s).state = .idle := rfl
@[simp] theorem abortMessage_cfg (s : State) : (abortMessage s).cfg = s.cfg := rfl
@[simp] theorem abortMessage_events (s : State) : (abortMessage s).events = s.events := rfl
@[simp] theorem abortMessage_intEn (s : State) : (abortMessage s).intEn = s.intEn := rfl
@[simp] theorem abortMessage_bitbufAddr (s : State) : (abortMessage s).bitbufAddr = s.bitbufAddr := rfl
@[simp] theorem abortMessage_loLatch (s : State) : (abortMessage s).loLatch = s.loLatch := rfl
@[simp] theorem abortMessage_msg (s : State) : (abortMessage s).msg = Message.clear := rfl
@[simp] theorem abortMessage_inbox (s : State) : (abortMessage s).inbox = s.inbox := rfl
@[simp] theorem abortMessage_turns (s : State) : (abortMessage s).turns = s.turns := rfl
@[simp] theorem abortMessage_ticks (s : State) : (abortMessage s).ticks = s.ticks := rfl
@[simp] theorem abortMessage_responses (s : State) : (abortMessage s).responses = s.responses := rfl

@[simp] theorem completeStep_params (s : State) : (completeStep s).params = s.params := rfl
@[simp] theorem completeStep_state (s : State) : (completeStep s).state = .done := rfl
@[simp] theorem completeStep_cfg (s : State) : (completeStep s).cfg = s.cfg := rfl
@[simp] theorem completeStep_events (s : State) : (completeStep s).events = s.events ||| eventBit .done := rfl
@[simp] theorem completeStep_intEn (s : State) : (completeStep s).intEn = s.intEn := rfl
@[simp] theorem completeStep_bitbufAddr (s : State) : (completeStep s).bitbufAddr = s.bitbufAddr := rfl
@[simp] theorem completeStep_loLatch (s : State) : (completeStep s).loLatch = s.loLatch := rfl
@[simp] theorem completeStep_msg (s : State) : (completeStep s).msg = s.msg := rfl
@[simp] theorem completeStep_inbox (s : State) : (completeStep s).inbox = s.inbox := rfl
@[simp] theorem completeStep_turns (s : State) : (completeStep s).turns = s.turns := rfl
@[simp] theorem completeStep_ticks (s : State) : (completeStep s).ticks = s.ticks := rfl
@[simp] theorem completeStep_responses (s : State) : (completeStep s).responses = s.responses := rfl

@[simp] theorem consumeSample_params (x : F64) (s : State) : (consumeSample x s).params = s.params := rfl
@[simp] theorem consumeSample_state (x : F64) (s : State) : (consumeSample x s).state = s.state := rfl
@[simp] theorem consumeSample_cfg (x : F64) (s : State) : (consumeSample x s).cfg = s.cfg := rfl
@[simp] theorem consumeSample_events (x : F64) (s : State) : (consumeSample x s).events = s.events := rfl
@[simp] theorem consumeSample_intEn (x : F64) (s : State) : (consumeSample x s).intEn = s.intEn := rfl
@[simp] theorem consumeSample_bitbufAddr (x : F64) (s : State) : (consumeSample x s).bitbufAddr = s.bitbufAddr := rfl
@[simp] theorem consumeSample_loLatch (x : F64) (s : State) : (consumeSample x s).loLatch = s.loLatch := rfl
@[simp] theorem consumeSample_msg (x : F64) (s : State) : (consumeSample x s).msg = { s.msg with peak := if fgt (fabs x) s.msg.peak then fabs x else s.msg.peak, winbuf := s.msg.winbuf ++ [x] } := rfl
@[simp] theorem consumeSample_inbox (x : F64) (s : State) : (consumeSample x s).inbox = s.inbox := rfl
@[simp] theorem consumeSample_turns (x : F64) (s : State) : (consumeSample x s).turns = s.turns := rfl
@[simp] theorem consumeSample_ticks (x : F64) (s : State) : (consumeSample x s).ticks = s.ticks := rfl
@[simp] theorem consumeSample_responses (x : F64) (s : State) : (consumeSample x s).responses = s.responses := rfl

/-! ## The configuration registers -/

@[simp] theorem get_set_same (c : ConfigRegs) (r : CfgReg) (v : Word) : (c.set r v).get r = v := by
  cases r <;> rfl

theorem get_set_other (c : ConfigRegs) {r r' : CfgReg} (v : Word) (h : r' ≠ r) : (c.set r v).get r' = c.get r' := by
  cases r <;> cases r' <;> first | exact absurd rfl h | rfl

theorem get_set (c : ConfigRegs) (r r' : CfgReg) (v : Word) :
    (c.set r v).get r' = if r' = r then v else c.get r' := by
  by_cases h : r' = r
  · subst h; simp
  · simp [h, get_set_other c v h]

theorem ConfigRegs.get_inj {c d : ConfigRegs} (h : ∀ r, c.get r = d.get r) : c = d := by
  cases c; cases d
  simp only [ConfigRegs.mk.injEq]
  exact ⟨h .ctrl, h .sampleRate, h .baud, h .markFreq, h .spaceFreq, h .biasLo, h .biasHi, h .noiseFloorLo, h .noiseFloorHi, h .ampFloorLo, h .ampFloorHi, h .headPat, h .tailPat, h .syncCfg, h .headWin, h .tailWin, h .escape⟩

/-! ## An open message -/

@[simp] theorem isOpen_iff (s : State) : s.isOpen = true ↔ s.state = .run ∨ s.state = .finish := by
  simp [State.isOpen]

theorem isOpen_congr {s t : State} (h : t.state = s.state) : t.isOpen = s.isOpen := by
  simp [State.isOpen, h]

end Sys2Proof.Machine
end

