-- ==== Sys2Proof/Laws/Ops.lean ====
section
/-! SUPPORT. What the shared operations can do, said once: the effect of a host access, of an input, of a step. -/

namespace Sys2Proof.Machine

/-- Everything a host access can make of the state, before its response. -/
inductive HostEffect (s : State) : State → Prop where
  | none : HostEffect s s
  | pop : HostEffect s (popOutput s)
  | config (r : CfgReg) (d : Word) : HostEffect s (writeConfig r d s)
  | sample (x : F64) : HostEffect s (offerSample x s)
  | latch (d : Word) : HostEffect s { s with loLatch := d }
  | clear (d : Word) : HostEffect s (clearEvents d s)
  | enables (d : Word) : HostEffect s { s with intEn := d &&& intEnMask }
  | index (d : Word) : HostEffect s { s with bitbufAddr := d }
  | start : HostEffect s (startMessage s)
  | finish : HostEffect s (endMessage s)
  | abort : HostEffect s (abortMessage s)
  | reset : HostEffect s (resetBlock s)
  | reserved : HostEffect s (s.raise .cmdErr)

/-- An access does one host effect and answers; it never stops. -/
def Answers (s : State) (o : Host.Outcome State Fault Refusal) : Prop :=
  ∃ u r v, HostEffect s u ∧ o = .next (State.respond u r v)

theorem readReg_answers (r : Reg) (s : State) : Answers s (readReg r s) := ⟨s, _, _, .none, rfl⟩

theorem refuseAccess_answers (s : State) : Answers s (refuseAccess s) := ⟨s, _, _, .none, rfl⟩

theorem acknowledge_answers {s u : State} (h : HostEffect s u) : Answers s (acknowledge u) := ⟨u, _, _, h, rfl⟩

/-- Every instruction does one host effect and answers. -/
theorem exec_answers (i : Instr) (s : State) : Answers s (exec i s) := by
  cases i
  case rdOutData => exact ⟨_, _, _, .pop, rfl⟩
  case cmdNop => exact acknowledge_answers .none
  case cmdStart => exact acknowledge_answers .start
  case cmdEnd => exact acknowledge_answers .finish
  case cmdAbort => exact acknowledge_answers .abort
  case cmdSoftReset => exact acknowledge_answers .reset
  case cmdReserved => exact acknowledge_answers .reserved
  case wrSampleLo d => exact acknowledge_answers (.latch d)
  case wrSampleHi d => exact acknowledge_answers (.sample _)
  case wrEvents d => exact acknowledge_answers (.clear d)
  case wrIntEn d => exact acknowledge_answers (.enables d)
  case wrBitbufAddr d => exact acknowledge_answers (.index d)
  all_goals first
    | exact readReg_answers _ s
    | exact refuseAccess_answers s
    | exact acknowledge_answers (.config _ _)

/-- Everything one turn can make of the state: the turn is taken first. -/
inductive TurnEffect (s : State) : State → Prop where
  | engine : nextAgent s = .engine → TurnEffect s (engineStep s.takeTurn)
  | idle : nextAgent s = .host → s.inbox = [] → TurnEffect s s.takeTurn
  | bus (w : BusWord) (rest : List Input) (t : State) : nextAgent s = .host → s.inbox = .bus w :: rest →
      exec (decodeBus w) { s.takeTurn with inbox := rest } = .next t → TurnEffect s t
  | poll (woff : BitVec 6) (mask val : Word) (rest : List Input) (t : State) : nextAgent s = .host →
      s.inbox = .poll woff mask val :: rest →
      exec (decodeRead woff) { s.takeTurn with inbox := rest } = .next t →
      TurnEffect s (pollAgain woff mask val t)
  | platform (a : PlatformAccess) (rest : List Input) (t : State) : nextAgent s = .host →
      s.inbox = .platform a :: rest →
      platformStep Config.base a { s.takeTurn with inbox := rest } = .next t → TurnEffect s t
  | resetLine (rest : List Input) : nextAgent s = .host → s.inbox = .resetLine :: rest →
      TurnEffect s (resetBlock { s.takeTurn with inbox := rest })

/-- What a step that answers a next state did. -/
theorem step_turnEffect {s t : State} (h : step s = .next t) : TurnEffect s t := by
  unfold step at h
  cases ha : nextAgent s with
  | engine => rw [ha] at h; cases h; exact .engine ha
  | host =>
    rw [ha] at h
    simp only [hostStep, takeTurn_inbox] at h
    split at h
    · next hi => cases h; exact .idle ha hi
    · next w rest hi => exact .bus w rest t ha hi h
    · next woff mask val rest hi =>
      split at h
      · next u hu => cases h; exact .poll woff mask val rest u ha hi hu
      · cases h
      · cases h
    · next a rest hi => exact .platform a rest t ha hi h
    · next rest hi => cases h; exact .resetLine rest ha hi

/-- What START can do (40_host_ops.md R131). -/
theorem startMessage_spec (s : State) :
    (s.isOpen = true ∧ startMessage s = s.raise .cmdErr) ∨
    (s.isOpen = false ∧ validConfig s.params.winMax s.cfg = true ∧
      startMessage s = { s.clearMessage with state := .run }) ∨
    (s.isOpen = false ∧ validConfig s.params.winMax s.cfg = false ∧
      startMessage s = { s.clearMessage with state := .error }.raise .cfgErr) := by
  unfold startMessage
  cases ho : s.isOpen <;> cases hv : validConfig s.params.winMax s.cfg <;> simp

/-- What END can do (40_host_ops.md R133). -/
theorem endMessage_spec (s : State) :
    (s.state = .run ∧ endMessage s = { s with state := .finish, msg := { s.msg with fphase := .drain } }) ∨
    (s.state ≠ .run ∧ endMessage s = s.raise .cmdErr) := by
  unfold endMessage
  by_cases h : s.state = .run <;> simp [h]

/-- What a configuration write can do (40_host_ops.md R144). -/
theorem writeConfig_spec (r : CfgReg) (d : Word) (s : State) :
    (s.isOpen = true ∧ writeConfig r d s = s.raise .lockErr) ∨
    (s.isOpen = false ∧ writeConfig r d s = { s with cfg := s.cfg.set r (d &&& cfgMask r) }) := by
  unfold writeConfig
  cases h : s.isOpen <;> simp

/-- What an offered sample can do (40_host_ops.md R140). -/
theorem offerSample_spec (x : F64) (s : State) :
    (s.state ≠ .run ∧ offerSample x s = s.raise .pushErr) ∨
    (s.state = .run ∧ s.msg.sfifo.length = s.params.sfifoDepth ∧ offerSample x s = s.raise .sampleOvf) ∨
    (s.state = .run ∧ s.msg.sfifo.length ≠ s.params.sfifoDepth ∧
      ∃ ev, (ev = s.events ∨ ev = s.events ||| eventBit .nonfinite) ∧
        offerSample x s = { s with events := ev, msg := { s.msg with
          sfifo := s.msg.sfifo ++ [x], sampleCount := s.msg.sampleCount + 1 } }) := by
  by_cases h1 : s.state = .run
  · by_cases h2 : s.msg.sfifo.length = s.params.sfifoDepth
    · exact .inr (.inl ⟨h1, h2, by simp [offerSample, h1, h2]⟩)
    · refine .inr (.inr ⟨h1, h2, ?_⟩)
      have hn : ¬ s.state ≠ .run := not_not.mpr h1
      unfold offerSample
      rw [if_neg hn, if_neg h2]
      by_cases h3 : (isNaN x || isInf x) = true
      · exact ⟨_, .inr rfl, by rw [if_pos h3]; rfl⟩
      · exact ⟨_, .inl rfl, by rw [if_neg h3]⟩
  · exact .inl ⟨h1, by simp [offerSample, h1]⟩

end Sys2Proof.Machine
end

