-- ==== Sys2Proof/Laws/Engine.lean ====
section
/-! SUPPORT. What an engine step can do, said once: which fields it leaves, and the shape of each step. -/

namespace Sys2Proof.Machine

/-- Two states that differ in the message state and in EVENTS at most, where no event is lost. -/
structure OnlyMessage (s t : State) : Prop where
  params : t.params = s.params
  state : t.state = s.state
  cfg : t.cfg = s.cfg
  events : ∃ e, t.events = s.events ||| e
  intEn : t.intEn = s.intEn
  bitbufAddr : t.bitbufAddr = s.bitbufAddr
  loLatch : t.loLatch = s.loLatch
  inbox : t.inbox = s.inbox
  turns : t.turns = s.turns
  ticks : t.ticks = s.ticks
  responses : t.responses = s.responses

theorem onlyMessage_msg (s : State) (m : Message) : OnlyMessage s { s with msg := m } :=
  ⟨rfl, rfl, rfl, ⟨0, by simp⟩, rfl, rfl, rfl, rfl, rfl, rfl, rfl⟩

theorem onlyMessage_raise (s : State) (e : Event) : OnlyMessage s (s.raise e) :=
  ⟨rfl, rfl, rfl, ⟨_, rfl⟩, rfl, rfl, rfl, rfl, rfl, rfl, rfl⟩

theorem OnlyMessage.refl (s : State) : OnlyMessage s s := onlyMessage_msg s s.msg

theorem OnlyMessage.trans {s t u : State} (h : OnlyMessage s t) (k : OnlyMessage t u) : OnlyMessage s u := by
  obtain ⟨a, ha⟩ := h.events
  obtain ⟨b, hb⟩ := k.events
  exact ⟨k.params.trans h.params, k.state.trans h.state, k.cfg.trans h.cfg,
    ⟨a ||| b, by rw [hb, ha, BitVec.or_assoc]⟩, k.intEn.trans h.intEn, k.bitbufAddr.trans h.bitbufAddr,
    k.loLatch.trans h.loLatch, k.inbox.trans h.inbox, k.turns.trans h.turns, k.ticks.trans h.ticks,
    k.responses.trans h.responses⟩

/-- What storing a symbol can do (42_symbol_slicer.md R194, R195). -/
theorem storeSymbol_spec (bit unk : Bool) (s : State) :
    (s.msg.bitbuf.length < s.params.bitbufDepth ∧
      storeSymbol bit unk s = { s with msg := { s.msg with bitbuf := s.msg.bitbuf ++ [⟨bit, unk⟩] } }) ∨
    (s.params.bitbufDepth ≤ s.msg.bitbuf.length ∧ storeSymbol bit unk s =
      { s with msg := { s.msg with bitlostCount := s.msg.bitlostCount + 1 } }.raise .bitbufOvf) := by
  by_cases h : s.msg.bitbuf.length < s.params.bitbufDepth
  · exact .inl ⟨h, by simp [storeSymbol, h]⟩
  · exact .inr ⟨by omega, by simp [storeSymbol, h, bitbufOverflow]⟩

/-- What a message keeps while a window is demodulated. -/
structure WindowKeeps (m n : Message) : Prop where
  sfifo : n.sfifo = m.sfifo
  winbuf : n.winbuf = m.winbuf
  peak : n.peak = m.peak
  outseq : n.outseq = m.outseq
  ofifo : n.ofifo = m.ofifo
  fphase : n.fphase = m.fphase
  sampleCount : n.sampleCount = m.sampleCount
  results : n.results = m.results
  prefix_ : m.bitbuf <+: n.bitbuf

theorem WindowKeeps.refl (m : Message) : WindowKeeps m m :=
  ⟨rfl, rfl, rfl, rfl, rfl, rfl, rfl, rfl, List.prefix_rfl⟩

theorem WindowKeeps.trans {a b c : Message} (h : WindowKeeps a b) (k : WindowKeeps b c) : WindowKeeps a c :=
  ⟨k.sfifo.trans h.sfifo, k.winbuf.trans h.winbuf, k.peak.trans h.peak, k.outseq.trans h.outseq,
    k.ofifo.trans h.ofifo, k.fphase.trans h.fphase, k.sampleCount.trans h.sampleCount,
    k.results.trans h.results, h.prefix_.trans k.prefix_⟩

/-- A demodulated window changes the symbol side of the message alone, appends at most one symbol, and never
overfills the bit buffer (42_symbol_slicer.md R190–R195). -/
structure WindowEffect (s t : State) : Prop where
  only : OnlyMessage s t
  keeps : WindowKeeps s.msg t.msg
  fits : s.msg.bitbuf.length ≤ s.params.bitbufDepth → t.msg.bitbuf.length ≤ s.params.bitbufDepth

theorem storeSymbol_effect (bit unk : Bool) (s : State) : WindowEffect s (storeSymbol bit unk s) := by
  rcases storeSymbol_spec bit unk s with ⟨h, e⟩ | ⟨h, e⟩ <;> rw [e]
  · exact ⟨onlyMessage_msg s _, ⟨rfl, rfl, rfl, rfl, rfl, rfl, rfl, rfl, List.prefix_append _ _⟩,
      fun _ => by simpa using h⟩
  · exact ⟨(onlyMessage_msg s _).trans (onlyMessage_raise _ _),
      ⟨rfl, rfl, rfl, rfl, rfl, rfl, rfl, rfl, List.prefix_rfl⟩, fun h => h⟩

theorem WindowEffect.after {s u t : State} (h : WindowEffect u t) (ho : OnlyMessage s u)
    (hk : WindowKeeps s.msg u.msg) (hb : u.msg.bitbuf = s.msg.bitbuf) : WindowEffect s t :=
  ⟨ho.trans h.only, hk.trans h.keeps, fun hl => by
    have := h.fits (by rw [hb, ho.params]; exact hl)
    rwa [ho.params] at this⟩

theorem appendSymbol_effect (bit g : Bool) (s : State) : WindowEffect s (appendSymbol bit g s) := by
  unfold appendSymbol
  split
  · exact ⟨onlyMessage_msg s _, ⟨rfl, rfl, rfl, rfl, rfl, rfl, rfl, rfl, List.prefix_rfl⟩, fun h => h⟩
  · exact (storeSymbol_effect bit true _).after (onlyMessage_msg s _)
      ⟨rfl, rfl, rfl, rfl, rfl, rfl, rfl, rfl, List.prefix_rfl⟩ rfl
  · exact storeSymbol_effect bit _ s

theorem windowComplete_effect (w : List F64) (s : State) : WindowEffect s (windowComplete w s) := by
  unfold windowComplete
  exact (appendSymbol_effect _ _ _).after (onlyMessage_msg s _)
    ⟨rfl, rfl, rfl, rfl, rfl, rfl, rfl, rfl, List.prefix_rfl⟩ rfl

/-- What the synchronizer keeps of the message: all but the five registers it writes. -/
structure SyncKeeps (m n : Message) : Prop where
  sfifo : n.sfifo = m.sfifo
  winbuf : n.winbuf = m.winbuf
  peak : n.peak = m.peak
  bitbuf : n.bitbuf = m.bitbuf
  ofifo : n.ofifo = m.ofifo
  fphase : n.fphase = m.fphase

theorem missedMarker_effect (ps pe : Nat) (s : State) :
    OnlyMessage s (missedMarker ps pe s).1 ∧ SyncKeeps s.msg (missedMarker ps pe s).1.msg := by
  unfold missedMarker
  split
  · exact ⟨onlyMessage_raise s _, rfl, rfl, rfl, rfl, rfl, rfl⟩
  · exact ⟨onlyMessage_msg s _, rfl, rfl, rfl, rfl, rfl, rfl⟩

theorem sync_effect (s : State) : OnlyMessage s (sync s).1 ∧ SyncKeeps s.msg (sync s).1.msg := by
  unfold sync
  dsimp only
  split
  · have h := missedMarker_effect 0 s.msg.bits.length
      ({ s with msg := { s.msg with
        syncResult := 0, headPos := 0, tailPos := 0, payloadStart := 0, payloadEnd := 0 } }.raise .headMiss)
    exact ⟨((onlyMessage_msg s _).trans (onlyMessage_raise _ _)).trans h.1,
      h.2.sfifo, h.2.winbuf, h.2.peak, h.2.bitbuf, h.2.ofifo, h.2.fphase⟩
  · next ph eh _ =>
    split
    · have h := missedMarker_effect (ph + s.cfg.headLen) s.msg.bits.length
        ({ s with msg := { s.msg with
          syncResult := syncWord true false true eh 0, headPos := BitVec.ofNat 32 ph, tailPos := 0,
          payloadStart := 0, payloadEnd := 0 } }.raise .tailMiss)
      exact ⟨((onlyMessage_msg s _).trans (onlyMessage_raise _ _)).trans h.1,
      h.2.sfifo, h.2.winbuf, h.2.peak, h.2.bitbuf, h.2.ofifo, h.2.fphase⟩
    · exact ⟨onlyMessage_msg s _, rfl, rfl, rfl, rfl, rfl, rfl⟩

theorem decodePayload_effect (ps pe : Nat) (s : State) :
    OnlyMessage s (decodePayload ps pe s) ∧ SyncKeeps s.msg (decodePayload ps pe s).msg := by
  unfold decodePayload
  dsimp only
  split
  · exact ⟨(onlyMessage_raise s _).trans (onlyMessage_msg _ _), rfl, rfl, rfl, rfl, rfl, rfl⟩
  · exact ⟨onlyMessage_msg s _, rfl, rfl, rfl, rfl, rfl, rfl⟩

/-- Phase 2 changes EVENTS, OUTSEQ and the result registers alone (45_destuffer.md R258). -/
theorem phase2_effect (s : State) : OnlyMessage s (phase2 s) ∧ SyncKeeps s.msg (phase2 s).msg := by
  unfold phase2
  split
  · exact ⟨(onlyMessage_raise s _).trans (onlyMessage_msg _ _), rfl, rfl, rfl, rfl, rfl, rfl⟩
  · have h := sync_effect s
    split
    · next t e =>
      rw [e] at h
      exact ⟨h.1.trans (onlyMessage_msg t _), h.2.1, h.2.2, h.2.3, h.2.4, h.2.5, h.2.6⟩
    · next t ps pe e =>
      rw [e] at h
      have k := decodePayload_effect ps pe t
      exact ⟨h.1.trans k.1, k.2.1.trans h.2.1, k.2.2.trans h.2.2, k.2.3.trans h.2.3, k.2.4.trans h.2.4,
        k.2.5.trans h.2.5, k.2.6.trans h.2.6⟩

/-- What a turn of the engine did, by the step that was enabled (40_host_ops.md R150). -/
theorem engineStep_cases (s : State) :
    (enabledStep s = some .consume ∧ engineStep s = consumeStep s) ∨
    (enabledStep s = some .drain ∧ engineStep s = drainStep s) ∨
    (enabledStep s = some .compute ∧ engineStep s = computeStep s) ∨
    (enabledStep s = some .deliver ∧ engineStep s = deliverStep s) ∨
    (enabledStep s = some .complete ∧ engineStep s = completeStep s) ∨
    (enabledStep s = none ∧ engineStep s = s) := by
  unfold engineStep
  cases h : enabledStep s with
  | none => simp
  | some e => cases e <;> simp

/-- When each engine step is enabled (40_host_ops.md R150). -/
theorem enabledStep_iff (s : State) (e : EngineStep) : enabledStep s = some e ↔
    match e with
    | .consume => s.isOpen = true ∧ s.msg.sfifo ≠ []
    | .drain => s.state = .finish ∧ s.msg.sfifo = [] ∧ s.msg.fphase = .drain
    | .compute => s.state = .finish ∧ s.msg.sfifo = [] ∧ s.msg.fphase = .compute
    | .deliver => s.state = .finish ∧ s.msg.sfifo = [] ∧ s.msg.fphase = .deliver ∧ s.msg.outseq ≠ [] ∧
        s.msg.ofifo.length < s.params.ofifoDepth
    | .complete => s.state = .finish ∧ s.msg.sfifo = [] ∧ s.msg.fphase = .deliver ∧ s.msg.outseq = [] := by
  unfold enabledStep
  by_cases hf : s.state = .finish
  · by_cases hs : s.msg.sfifo = []
    · cases hp : s.msg.fphase <;> cases e <;>
        by_cases ho : s.msg.outseq = [] <;>
        by_cases hl : s.msg.ofifo.length < s.params.ofifoDepth <;> simp [hf, hs, ho, hl]
    · cases e <;> simp [hf, hs, State.isOpen]
  · by_cases hs : s.msg.sfifo = []
    · cases e <;> simp [hf, hs]
    · cases e <;> simp [hf, hs]

end Sys2Proof.Machine
end

