-- ==== Sys2Proof/Laws/Float64.lean ====
section
/-! SUPPORT. The fields of a packed binary64 encoding, and how a NaN passes through the operations. -/

namespace Sys2Proof.Machine

/-- The value of a packed encoding. -/
theorem fPack_toNat (sign : Bool) (body : Nat) (h : body < 2 ^ 63) :
    (fPack sign body).toNat = (if sign then 2 ^ 63 else 0) + body := by
  rw [fPack, BitVec.toNat_ofNat, Nat.mod_eq_of_lt]
  cases sign <;> simp <;> omega

theorem fSign_eq (a : F64) : fSign a = decide (2 ^ 63 ≤ a.toNat) := by
  rw [fSign, BitVec.getLsbD, Nat.testBit_eq_decide_div_mod_eq]
  have := a.isLt
  congr 1; apply propext; omega

theorem fExp_eq (a : F64) : fExp a = a.toNat / 2 ^ 52 % 2 ^ 11 := by
  simp [fExp, Nat.shiftRight_eq_div_pow]

theorem fFrac_eq (a : F64) : fFrac a = a.toNat % 2 ^ 52 := by
  simp [fFrac]

@[simp] theorem fSign_fPack (sign : Bool) (body : Nat) (h : body < 2 ^ 63) : fSign (fPack sign body) = sign := by
  rw [fSign_eq, fPack_toNat sign body h]
  cases sign <;> (simp; try omega)

theorem fExp_fPack (sign : Bool) (body : Nat) (h : body < 2 ^ 63) : fExp (fPack sign body) = body / 2 ^ 52 := by
  rw [fExp_eq, fPack_toNat sign body h]
  cases sign <;> (simp; omega)

theorem fFrac_fPack (sign : Bool) (body : Nat) (h : body < 2 ^ 63) : fFrac (fPack sign body) = body % 2 ^ 52 := by
  rw [fFrac_eq, fPack_toNat sign body h]
  cases sign <;> (simp; try omega)

/-- A drawn NaN is a NaN, whatever is drawn (log 3). -/
@[simp] theorem isNaN_asNaN (raw : F64) : isNaN (asNaN raw) = true := by
  unfold asNaN
  split
  · assumption
  · have hb : infBody + 2 ^ 51 < 2 ^ 63 := by decide
    rw [isNaN, fExp_fPack _ _ hb, fFrac_fPack _ _ hb]; decide

theorem isNaN_fneg (a : F64) : isNaN (fneg a) = isNaN a := by
  have he : fExp (fneg a) = fExp a := by
    unfold fExp fneg
    congr 1
    apply BitVec.eq_of_getLsbD_eq
    intro i hi
    simp only [BitVec.getLsbD_extractLsb', BitVec.getLsbD_xor]
    have : (fPack true 0).getLsbD (52 + i) = false := by revert i; decide
    simp [this]
  have hf : fFrac (fneg a) = fFrac a := by
    unfold fFrac fneg
    congr 1
    apply BitVec.eq_of_getLsbD_eq
    intro i hi
    simp only [BitVec.getLsbD_extractLsb', BitVec.getLsbD_xor]
    have : (fPack true 0).getLsbD i = false := by revert i; decide
    simp [this]
  rw [isNaN, isNaN, he, hf]

/-- A NaN operand makes a sum a NaN (00_scope.md R14). -/
theorem isNaN_fadd {nan a b : F64} (h : isNaN a = true ∨ isNaN b = true) : isNaN (fadd nan a b) = true := by
  unfold fadd
  rw [if_pos (by simpa using h)]
  exact isNaN_asNaN nan

theorem isNaN_fsub {nan a b : F64} (h : isNaN a = true ∨ isNaN b = true) : isNaN (fsub nan a b) = true :=
  isNaN_fadd (by rwa [isNaN_fneg])

/-- A NaN operand makes a product a NaN (00_scope.md R14). -/
theorem isNaN_fmul {nan a b : F64} (h : isNaN a = true ∨ isNaN b = true) : isNaN (fmul nan a b) = true := by
  unfold fmul
  dsimp only
  rw [if_pos (by simpa using h)]
  exact isNaN_asNaN nan

end Sys2Proof.Machine
end

