-- ==== Sys2Proof/Laws/PerInstr.lean ====
section
/-! SUPPORT. For each instruction: its encoding lies on its own row of spec/opcode_table.json, that is, it has the
row's match under the row's mask. -/

namespace Sys2Proof.Laws.EncodesOnItsRow

/-- Match and mask of the row of an instruction, as spec/opcode_table.json writes them. -/
def row : Instr → BusWord × BusWord
  | .wrIdRefused _ => (0x4000000000, 0x7F00000000)
  | .rdId => (0x0000000000, 0x7F00000000)
  | .wrVersionRefused _ => (0x4100000000, 0x7F00000000)
  | .rdVersion => (0x0100000000, 0x7F00000000)
  | .wrParamWinRefused _ => (0x4200000000, 0x7F00000000)
  | .rdParamWin => (0x0200000000, 0x7F00000000)
  | .wrParamBitbufRefused _ => (0x4300000000, 0x7F00000000)
  | .rdParamBitbuf => (0x0300000000, 0x7F00000000)
  | .wrParamFifoRefused _ => (0x4400000000, 0x7F00000000)
  | .rdParamFifo => (0x0400000000, 0x7F00000000)
  | .wrCtrl _ => (0x4500000000, 0x7F00000000)
  | .rdCtrl => (0x0500000000, 0x7F00000000)
  | .cmdNop => (0x4600000000, 0x7FFFFFFFFF)
  | .cmdStart => (0x4600000001, 0x7FFFFFFFFF)
  | .cmdEnd => (0x4600000002, 0x7FFFFFFFFF)
  | .cmdAbort => (0x4600000003, 0x7FFFFFFFFF)
  | .cmdSoftReset => (0x4600000004, 0x7FFFFFFFFF)
  | .cmdReserved _ => (0x4600000000, 0x7F00000000)
  | .rdCmdReturns0 => (0x0600000000, 0x7F00000000)
  | .wrStatusRefused _ => (0x4700000000, 0x7F00000000)
  | .rdStatus => (0x0700000000, 0x7F00000000)
  | .wrEvents _ => (0x4800000000, 0x7F00000000)
  | .rdEvents => (0x0800000000, 0x7F00000000)
  | .wrIntEn _ => (0x4900000000, 0x7F00000000)
  | .rdIntEn => (0x0900000000, 0x7F00000000)
  | .wrSampleRate _ => (0x4A00000000, 0x7F00000000)
  | .rdSampleRate => (0x0A00000000, 0x7F00000000)
  | .wrBaud _ => (0x4B00000000, 0x7F00000000)
  | .rdBaud => (0x0B00000000, 0x7F00000000)
  | .wrMarkFreq _ => (0x4C00000000, 0x7F00000000)
  | .rdMarkFreq => (0x0C00000000, 0x7F00000000)
  | .wrSpaceFreq _ => (0x4D00000000, 0x7F00000000)
  | .rdSpaceFreq => (0x0D00000000, 0x7F00000000)
  | .wrBiasLo _ => (0x4E00000000, 0x7F00000000)
  | .rdBiasLo => (0x0E00000000, 0x7F00000000)
  | .wrBiasHi _ => (0x4F00000000, 0x7F00000000)
  | .rdBiasHi => (0x0F00000000, 0x7F00000000)
  | .wrNoiseFloorLo _ => (0x5000000000, 0x7F00000000)
  | .rdNoiseFloorLo => (0x1000000000, 0x7F00000000)
  | .wrNoiseFloorHi _ => (0x5100000000, 0x7F00000000)
  | .rdNoiseFloorHi => (0x1100000000, 0x7F00000000)
  | .wrAmpFloorLo _ => (0x5200000000, 0x7F00000000)
  | .rdAmpFloorLo => (0x1200000000, 0x7F00000000)
  | .wrAmpFloorHi _ => (0x5300000000, 0x7F00000000)
  | .rdAmpFloorHi => (0x1300000000, 0x7F00000000)
  | .wrHeadPat _ => (0x5400000000, 0x7F00000000)
  | .rdHeadPat => (0x1400000000, 0x7F00000000)
  | .wrTailPat _ => (0x5500000000, 0x7F00000000)
  | .rdTailPat => (0x1500000000, 0x7F00000000)
  | .wrSyncCfg _ => (0x5600000000, 0x7F00000000)
  | .rdSyncCfg => (0x1600000000, 0x7F00000000)
  | .wrHeadWin _ => (0x5700000000, 0x7F00000000)
  | .rdHeadWin => (0x1700000000, 0x7F00000000)
  | .wrTailWin _ => (0x5800000000, 0x7F00000000)
  | .rdTailWin => (0x1800000000, 0x7F00000000)
  | .wrEscape _ => (0x5900000000, 0x7F00000000)
  | .rdEscape => (0x1900000000, 0x7F00000000)
  | .wrSampleLo _ => (0x5A00000000, 0x7F00000000)
  | .rdSampleLoReturns0 => (0x1A00000000, 0x7F00000000)
  | .wrSampleHi _ => (0x5B00000000, 0x7F00000000)
  | .rdSampleHiReturns0 => (0x1B00000000, 0x7F00000000)
  | .wrSfifoLevelRefused _ => (0x5C00000000, 0x7F00000000)
  | .rdSfifoLevel => (0x1C00000000, 0x7F00000000)
  | .wrOutDataRefused _ => (0x5D00000000, 0x7F00000000)
  | .rdOutData => (0x1D00000000, 0x7F00000000)
  | .wrOutLevelRefused _ => (0x5E00000000, 0x7F00000000)
  | .rdOutLevel => (0x1E00000000, 0x7F00000000)
  | .wrSampleCountRefused _ => (0x5F00000000, 0x7F00000000)
  | .rdSampleCount => (0x1F00000000, 0x7F00000000)
  | .wrSymbolCountRefused _ => (0x6000000000, 0x7F00000000)
  | .rdSymbolCount => (0x2000000000, 0x7F00000000)
  | .wrDropCountRefused _ => (0x6100000000, 0x7F00000000)
  | .rdDropCount => (0x2100000000, 0x7F00000000)
  | .wrUnkCountRefused _ => (0x6200000000, 0x7F00000000)
  | .rdUnkCount => (0x2200000000, 0x7F00000000)
  | .wrBitlostCountRefused _ => (0x6300000000, 0x7F00000000)
  | .rdBitlostCount => (0x2300000000, 0x7F00000000)
  | .wrLastPmarkLoRefused _ => (0x6400000000, 0x7F00000000)
  | .rdLastPmarkLo => (0x2400000000, 0x7F00000000)
  | .wrLastPmarkHiRefused _ => (0x6500000000, 0x7F00000000)
  | .rdLastPmarkHi => (0x2500000000, 0x7F00000000)
  | .wrLastPspaceLoRefused _ => (0x6600000000, 0x7F00000000)
  | .rdLastPspaceLo => (0x2600000000, 0x7F00000000)
  | .wrLastPspaceHiRefused _ => (0x6700000000, 0x7F00000000)
  | .rdLastPspaceHi => (0x2700000000, 0x7F00000000)
  | .wrPeakAmpLoRefused _ => (0x6800000000, 0x7F00000000)
  | .rdPeakAmpLo => (0x2800000000, 0x7F00000000)
  | .wrPeakAmpHiRefused _ => (0x6900000000, 0x7F00000000)
  | .rdPeakAmpHi => (0x2900000000, 0x7F00000000)
  | .wrSyncResultRefused _ => (0x6A00000000, 0x7F00000000)
  | .rdSyncResult => (0x2A00000000, 0x7F00000000)
  | .wrHeadPosRefused _ => (0x6B00000000, 0x7F00000000)
  | .rdHeadPos => (0x2B00000000, 0x7F00000000)
  | .wrTailPosRefused _ => (0x6C00000000, 0x7F00000000)
  | .rdTailPos => (0x2C00000000, 0x7F00000000)
  | .wrPayloadStartRefused _ => (0x6D00000000, 0x7F00000000)
  | .rdPayloadStart => (0x2D00000000, 0x7F00000000)
  | .wrPayloadEndRefused _ => (0x6E00000000, 0x7F00000000)
  | .rdPayloadEnd => (0x2E00000000, 0x7F00000000)
  | .wrFrameCountRefused _ => (0x6F00000000, 0x7F00000000)
  | .rdFrameCount => (0x2F00000000, 0x7F00000000)
  | .wrFrameErrCountRefused _ => (0x7000000000, 0x7F00000000)
  | .rdFrameErrCount => (0x3000000000, 0x7F00000000)
  | .wrOutTotalRefused _ => (0x7100000000, 0x7F00000000)
  | .rdOutTotal => (0x3100000000, 0x7F00000000)
  | .wrBitbufAddr _ => (0x7200000000, 0x7F00000000)
  | .rdBitbufAddr => (0x3200000000, 0x7F00000000)
  | .wrBitbufDataRefused _ => (0x7300000000, 0x7F00000000)
  | .rdBitbufData => (0x3300000000, 0x7F00000000)
  | .wrBitbufUnkRefused _ => (0x7400000000, 0x7F00000000)
  | .rdBitbufUnk => (0x3400000000, 0x7F00000000)
  | .wrReservedD4Refused _ => (0x7500000000, 0x7F00000000)
  | .rdReservedD4Refused => (0x3500000000, 0x7F00000000)
  | .wrReservedD8Refused _ => (0x7600000000, 0x7F00000000)
  | .rdReservedD8Refused => (0x3600000000, 0x7F00000000)
  | .wrReservedDcRefused _ => (0x7700000000, 0x7F00000000)
  | .rdReservedDcRefused => (0x3700000000, 0x7F00000000)
  | .wrReservedE0Refused _ => (0x7800000000, 0x7F00000000)
  | .rdReservedE0Refused => (0x3800000000, 0x7F00000000)
  | .wrReservedE4Refused _ => (0x7900000000, 0x7F00000000)
  | .rdReservedE4Refused => (0x3900000000, 0x7F00000000)
  | .wrReservedE8Refused _ => (0x7A00000000, 0x7F00000000)
  | .rdReservedE8Refused => (0x3A00000000, 0x7F00000000)
  | .wrReservedEcRefused _ => (0x7B00000000, 0x7F00000000)
  | .rdReservedEcRefused => (0x3B00000000, 0x7F00000000)
  | .wrReservedF0Refused _ => (0x7C00000000, 0x7F00000000)
  | .rdReservedF0Refused => (0x3C00000000, 0x7F00000000)
  | .wrReservedF4Refused _ => (0x7D00000000, 0x7F00000000)
  | .rdReservedF4Refused => (0x3D00000000, 0x7F00000000)
  | .wrReservedF8Refused _ => (0x7E00000000, 0x7F00000000)
  | .rdReservedF8Refused => (0x3E00000000, 0x7F00000000)
  | .wrReservedFcRefused _ => (0x7F00000000, 0x7F00000000)
  | .rdReservedFcRefused => (0x3F00000000, 0x7F00000000)

/-- The encoding of an instruction matches its row. -/
def Statement (i : Instr) : Prop := encode i &&& (row i).2 = (row i).1

theorem wrIdRefused (data : Word) : Statement (.wrIdRefused data) :=
  busWord_and_rowMask true 0x00 data
theorem rdId : Statement .rdId := rfl
theorem wrVersionRefused (data : Word) : Statement (.wrVersionRefused data) :=
  busWord_and_rowMask true 0x01 data
theorem rdVersion : Statement .rdVersion := rfl
theorem wrParamWinRefused (data : Word) : Statement (.wrParamWinRefused data) :=
  busWord_and_rowMask true 0x02 data
theorem rdParamWin : Statement .rdParamWin := rfl
theorem wrParamBitbufRefused (data : Word) : Statement (.wrParamBitbufRefused data) :=
  busWord_and_rowMask true 0x03 data
theorem rdParamBitbuf : Statement .rdParamBitbuf := rfl
theorem wrParamFifoRefused (data : Word) : Statement (.wrParamFifoRefused data) :=
  busWord_and_rowMask true 0x04 data
theorem rdParamFifo : Statement .rdParamFifo := rfl
theorem wrCtrl (data : Word) : Statement (.wrCtrl data) :=
  busWord_and_rowMask true 0x05 data
theorem rdCtrl : Statement .rdCtrl := rfl
theorem cmdNop : Statement .cmdNop := rfl
theorem cmdStart : Statement .cmdStart := rfl
theorem cmdEnd : Statement .cmdEnd := rfl
theorem cmdAbort : Statement .cmdAbort := rfl
theorem cmdSoftReset : Statement .cmdSoftReset := rfl
theorem cmdReserved (data : Word) : Statement (.cmdReserved data) :=
  busWord_and_rowMask true 0x06 data
theorem rdCmdReturns0 : Statement .rdCmdReturns0 := rfl
theorem wrStatusRefused (data : Word) : Statement (.wrStatusRefused data) :=
  busWord_and_rowMask true 0x07 data
theorem rdStatus : Statement .rdStatus := rfl
theorem wrEvents (data : Word) : Statement (.wrEvents data) :=
  busWord_and_rowMask true 0x08 data
theorem rdEvents : Statement .rdEvents := rfl
theorem wrIntEn (data : Word) : Statement (.wrIntEn data) :=
  busWord_and_rowMask true 0x09 data
theorem rdIntEn : Statement .rdIntEn := rfl
theorem wrSampleRate (data : Word) : Statement (.wrSampleRate data) :=
  busWord_and_rowMask true 0x0A data
theorem rdSampleRate : Statement .rdSampleRate := rfl
theorem wrBaud (data : Word) : Statement (.wrBaud data) :=
  busWord_and_rowMask true 0x0B data
theorem rdBaud : Statement .rdBaud := rfl
theorem wrMarkFreq (data : Word) : Statement (.wrMarkFreq data) :=
  busWord_and_rowMask true 0x0C data
theorem rdMarkFreq : Statement .rdMarkFreq := rfl
theorem wrSpaceFreq (data : Word) : Statement (.wrSpaceFreq data) :=
  busWord_and_rowMask true 0x0D data
theorem rdSpaceFreq : Statement .rdSpaceFreq := rfl
theorem wrBiasLo (data : Word) : Statement (.wrBiasLo data) :=
  busWord_and_rowMask true 0x0E data
theorem rdBiasLo : Statement .rdBiasLo := rfl
theorem wrBiasHi (data : Word) : Statement (.wrBiasHi data) :=
  busWord_and_rowMask true 0x0F data
theorem rdBiasHi : Statement .rdBiasHi := rfl
theorem wrNoiseFloorLo (data : Word) : Statement (.wrNoiseFloorLo data) :=
  busWord_and_rowMask true 0x10 data
theorem rdNoiseFloorLo : Statement .rdNoiseFloorLo := rfl
theorem wrNoiseFloorHi (data : Word) : Statement (.wrNoiseFloorHi data) :=
  busWord_and_rowMask true 0x11 data
theorem rdNoiseFloorHi : Statement .rdNoiseFloorHi := rfl
theorem wrAmpFloorLo (data : Word) : Statement (.wrAmpFloorLo data) :=
  busWord_and_rowMask true 0x12 data
theorem rdAmpFloorLo : Statement .rdAmpFloorLo := rfl
theorem wrAmpFloorHi (data : Word) : Statement (.wrAmpFloorHi data) :=
  busWord_and_rowMask true 0x13 data
theorem rdAmpFloorHi : Statement .rdAmpFloorHi := rfl
theorem wrHeadPat (data : Word) : Statement (.wrHeadPat data) :=
  busWord_and_rowMask true 0x14 data
theorem rdHeadPat : Statement .rdHeadPat := rfl
theorem wrTailPat (data : Word) : Statement (.wrTailPat data) :=
  busWord_and_rowMask true 0x15 data
theorem rdTailPat : Statement .rdTailPat := rfl
theorem wrSyncCfg (data : Word) : Statement (.wrSyncCfg data) :=
  busWord_and_rowMask true 0x16 data
theorem rdSyncCfg : Statement .rdSyncCfg := rfl
theorem wrHeadWin (data : Word) : Statement (.wrHeadWin data) :=
  busWord_and_rowMask true 0x17 data
theorem rdHeadWin : Statement .rdHeadWin := rfl
theorem wrTailWin (data : Word) : Statement (.wrTailWin data) :=
  busWord_and_rowMask true 0x18 data
theorem rdTailWin : Statement .rdTailWin := rfl
theorem wrEscape (data : Word) : Statement (.wrEscape data) :=
  busWord_and_rowMask true 0x19 data
theorem rdEscape : Statement .rdEscape := rfl
theorem wrSampleLo (data : Word) : Statement (.wrSampleLo data) :=
  busWord_and_rowMask true 0x1A data
theorem rdSampleLoReturns0 : Statement .rdSampleLoReturns0 := rfl
theorem wrSampleHi (data : Word) : Statement (.wrSampleHi data) :=
  busWord_and_rowMask true 0x1B data
theorem rdSampleHiReturns0 : Statement .rdSampleHiReturns0 := rfl
theorem wrSfifoLevelRefused (data : Word) : Statement (.wrSfifoLevelRefused data) :=
  busWord_and_rowMask true 0x1C data
theorem rdSfifoLevel : Statement .rdSfifoLevel := rfl
theorem wrOutDataRefused (data : Word) : Statement (.wrOutDataRefused data) :=
  busWord_and_rowMask true 0x1D data
theorem rdOutData : Statement .rdOutData := rfl
theorem wrOutLevelRefused (data : Word) : Statement (.wrOutLevelRefused data) :=
  busWord_and_rowMask true 0x1E data
theorem rdOutLevel : Statement .rdOutLevel := rfl
theorem wrSampleCountRefused (data : Word) : Statement (.wrSampleCountRefused data) :=
  busWord_and_rowMask true 0x1F data
theorem rdSampleCount : Statement .rdSampleCount := rfl
theorem wrSymbolCountRefused (data : Word) : Statement (.wrSymbolCountRefused data) :=
  busWord_and_rowMask true 0x20 data
theorem rdSymbolCount : Statement .rdSymbolCount := rfl
theorem wrDropCountRefused (data : Word) : Statement (.wrDropCountRefused data) :=
  busWord_and_rowMask true 0x21 data
theorem rdDropCount : Statement .rdDropCount := rfl
theorem wrUnkCountRefused (data : Word) : Statement (.wrUnkCountRefused data) :=
  busWord_and_rowMask true 0x22 data
theorem rdUnkCount : Statement .rdUnkCount := rfl
theorem wrBitlostCountRefused (data : Word) : Statement (.wrBitlostCountRefused data) :=
  busWord_and_rowMask true 0x23 data
theorem rdBitlostCount : Statement .rdBitlostCount := rfl
theorem wrLastPmarkLoRefused (data : Word) : Statement (.wrLastPmarkLoRefused data) :=
  busWord_and_rowMask true 0x24 data
theorem rdLastPmarkLo : Statement .rdLastPmarkLo := rfl
theorem wrLastPmarkHiRefused (data : Word) : Statement (.wrLastPmarkHiRefused data) :=
  busWord_and_rowMask true 0x25 data
theorem rdLastPmarkHi : Statement .rdLastPmarkHi := rfl
theorem wrLastPspaceLoRefused (data : Word) : Statement (.wrLastPspaceLoRefused data) :=
  busWord_and_rowMask true 0x26 data
theorem rdLastPspaceLo : Statement .rdLastPspaceLo := rfl
theorem wrLastPspaceHiRefused (data : Word) : Statement (.wrLastPspaceHiRefused data) :=
  busWord_and_rowMask true 0x27 data
theorem rdLastPspaceHi : Statement .rdLastPspaceHi := rfl
theorem wrPeakAmpLoRefused (data : Word) : Statement (.wrPeakAmpLoRefused data) :=
  busWord_and_rowMask true 0x28 data
theorem rdPeakAmpLo : Statement .rdPeakAmpLo := rfl
theorem wrPeakAmpHiRefused (data : Word) : Statement (.wrPeakAmpHiRefused data) :=
  busWord_and_rowMask true 0x29 data
theorem rdPeakAmpHi : Statement .rdPeakAmpHi := rfl
theorem wrSyncResultRefused (data : Word) : Statement (.wrSyncResultRefused data) :=
  busWord_and_rowMask true 0x2A data
theorem rdSyncResult : Statement .rdSyncResult := rfl
theorem wrHeadPosRefused (data : Word) : Statement (.wrHeadPosRefused data) :=
  busWord_and_rowMask true 0x2B data
theorem rdHeadPos : Statement .rdHeadPos := rfl
theorem wrTailPosRefused (data : Word) : Statement (.wrTailPosRefused data) :=
  busWord_and_rowMask true 0x2C data
theorem rdTailPos : Statement .rdTailPos := rfl
theorem wrPayloadStartRefused (data : Word) : Statement (.wrPayloadStartRefused data) :=
  busWord_and_rowMask true 0x2D data
theorem rdPayloadStart : Statement .rdPayloadStart := rfl
theorem wrPayloadEndRefused (data : Word) : Statement (.wrPayloadEndRefused data) :=
  busWord_and_rowMask true 0x2E data
theorem rdPayloadEnd : Statement .rdPayloadEnd := rfl
theorem wrFrameCountRefused (data : Word) : Statement (.wrFrameCountRefused data) :=
  busWord_and_rowMask true 0x2F data
theorem rdFrameCount : Statement .rdFrameCount := rfl
theorem wrFrameErrCountRefused (data : Word) : Statement (.wrFrameErrCountRefused data) :=
  busWord_and_rowMask true 0x30 data
theorem rdFrameErrCount : Statement .rdFrameErrCount := rfl
theorem wrOutTotalRefused (data : Word) : Statement (.wrOutTotalRefused data) :=
  busWord_and_rowMask true 0x31 data
theorem rdOutTotal : Statement .rdOutTotal := rfl
theorem wrBitbufAddr (data : Word) : Statement (.wrBitbufAddr data) :=
  busWord_and_rowMask true 0x32 data
theorem rdBitbufAddr : Statement .rdBitbufAddr := rfl
theorem wrBitbufDataRefused (data : Word) : Statement (.wrBitbufDataRefused data) :=
  busWord_and_rowMask true 0x33 data
theorem rdBitbufData : Statement .rdBitbufData := rfl
theorem wrBitbufUnkRefused (data : Word) : Statement (.wrBitbufUnkRefused data) :=
  busWord_and_rowMask true 0x34 data
theorem rdBitbufUnk : Statement .rdBitbufUnk := rfl
theorem wrReservedD4Refused (data : Word) : Statement (.wrReservedD4Refused data) :=
  busWord_and_rowMask true 0x35 data
theorem rdReservedD4Refused : Statement .rdReservedD4Refused := rfl
theorem wrReservedD8Refused (data : Word) : Statement (.wrReservedD8Refused data) :=
  busWord_and_rowMask true 0x36 data
theorem rdReservedD8Refused : Statement .rdReservedD8Refused := rfl
theorem wrReservedDcRefused (data : Word) : Statement (.wrReservedDcRefused data) :=
  busWord_and_rowMask true 0x37 data
theorem rdReservedDcRefused : Statement .rdReservedDcRefused := rfl
theorem wrReservedE0Refused (data : Word) : Statement (.wrReservedE0Refused data) :=
  busWord_and_rowMask true 0x38 data
theorem rdReservedE0Refused : Statement .rdReservedE0Refused := rfl
theorem wrReservedE4Refused (data : Word) : Statement (.wrReservedE4Refused data) :=
  busWord_and_rowMask true 0x39 data
theorem rdReservedE4Refused : Statement .rdReservedE4Refused := rfl
theorem wrReservedE8Refused (data : Word) : Statement (.wrReservedE8Refused data) :=
  busWord_and_rowMask true 0x3A data
theorem rdReservedE8Refused : Statement .rdReservedE8Refused := rfl
theorem wrReservedEcRefused (data : Word) : Statement (.wrReservedEcRefused data) :=
  busWord_and_rowMask true 0x3B data
theorem rdReservedEcRefused : Statement .rdReservedEcRefused := rfl
theorem wrReservedF0Refused (data : Word) : Statement (.wrReservedF0Refused data) :=
  busWord_and_rowMask true 0x3C data
theorem rdReservedF0Refused : Statement .rdReservedF0Refused := rfl
theorem wrReservedF4Refused (data : Word) : Statement (.wrReservedF4Refused data) :=
  busWord_and_rowMask true 0x3D data
theorem rdReservedF4Refused : Statement .rdReservedF4Refused := rfl
theorem wrReservedF8Refused (data : Word) : Statement (.wrReservedF8Refused data) :=
  busWord_and_rowMask true 0x3E data
theorem rdReservedF8Refused : Statement .rdReservedF8Refused := rfl
theorem wrReservedFcRefused (data : Word) : Statement (.wrReservedFcRefused data) :=
  busWord_and_rowMask true 0x3F data
theorem rdReservedFcRefused : Statement .rdReservedFcRefused := rfl

end Sys2Proof.Laws.EncodesOnItsRow
end

