-- ==== Sys2Proof/Laws/Schedule.lean ====
section
/-! SUPPORT. The schedules of `scheduled` are exactly those in which the engine moves again and again, and the list
of turns in a state only postpones them. -/

namespace Sys2Proof.Machine

/-- The turns that a state lists come first. -/
theorem nextAgent_cons {s : State} {a : Agent} {rest : List Agent} (h : s.turns = a :: rest) :
    nextAgent s = a := by rw [nextAgent, h]

theorem nextAgent_nil {s : State} (h : s.turns = []) : nextAgent s = scheduled Config.hostGap s.ticks := by
  rw [nextAgent, h]

theorem scheduled_eq_engine (gap : Nat → Nat) (n : Nat) :
    scheduled gap n = .engine ↔ ∃ k ≤ n, engineTurn gap k = n := by
  simp [scheduled]

theorem engineTurn_lt (gap : Nat → Nat) (k : Nat) : engineTurn gap k < engineTurn gap (k + 1) := by
  rw [engineTurn]; omega

theorem le_engineTurn (gap : Nat → Nat) (k : Nat) : k ≤ engineTurn gap k := by
  induction k with
  | zero => exact Nat.zero_le _
  | succ k ih => exact Nat.lt_of_le_of_lt ih (engineTurn_lt gap k)

/-- Weak fairness of the schedule (20_memory.md R71): from every step on, the engine moves again. -/
theorem scheduled_fair (gap : Nat → Nat) (n : Nat) : ∃ m, n ≤ m ∧ scheduled gap m = .engine :=
  ⟨engineTurn gap n, le_engineTurn gap n, (scheduled_eq_engine gap _).mpr ⟨n, le_engineTurn gap n, rfl⟩⟩

/-- Any interleaving in which the engine moves again and again has its gaps (20_memory.md R71). -/
theorem scheduled_complete (f : Nat → Agent) (fair : ∀ n, ∃ m, n ≤ m ∧ f m = .engine) :
    ∃ gap, ∀ n, scheduled gap n = f n := by
  have inf : {m | f m = .engine}.Infinite :=
    Set.infinite_of_forall_exists_gt fun n => by
      obtain ⟨m, hm, he⟩ := fair (n + 1)
      exact ⟨m, he, hm⟩
  let t : Nat → Nat := Nat.nth fun m => f m = .engine
  let gap : Nat → Nat
    | 0 => t 0
    | k + 1 => t (k + 1) - t k - 1
  have ht : ∀ k, engineTurn gap k = t k := by
    intro k
    induction k with
    | zero => rfl
    | succ k ih =>
      have hlt : t k < t (k + 1) := Nat.nth_strictMono inf (Nat.lt_succ_self k)
      have hg : gap (k + 1) = t (k + 1) - t k - 1 := rfl
      rw [engineTurn, ih, hg]; omega
  refine ⟨gap, fun n => ?_⟩
  have hn : scheduled gap n = .engine ↔ f n = .engine := by
    rw [scheduled_eq_engine]
    constructor
    · rintro ⟨k, -, hk⟩
      rw [ht] at hk
      rw [← hk]
      exact Nat.nth_mem_of_infinite inf k
    · intro he
      refine ⟨Nat.count (fun m => f m = .engine) n, Nat.count_le _, ?_⟩
      rw [ht]
      exact Nat.nth_count (p := fun m => f m = .engine) he
  cases hs : scheduled gap n <;> cases hf : f n <;> simp_all

/-- No host access touches the turns. -/
theorem HostEffect.turns {s t : State} (h : HostEffect s t) : t.turns = s.turns ∧ t.ticks = s.ticks := by
  cases h with
  | config r d => rcases writeConfig_spec r d s with ⟨-, e⟩ | ⟨-, e⟩ <;> rw [e] <;> exact ⟨rfl, rfl⟩
  | sample x =>
    rcases offerSample_spec x s with ⟨-, e⟩ | ⟨-, -, e⟩ | ⟨-, -, ev, -, e⟩ <;> rw [e] <;> exact ⟨rfl, rfl⟩
  | start => rcases startMessage_spec s with ⟨-, e⟩ | ⟨-, -, e⟩ | ⟨-, -, e⟩ <;> rw [e] <;> exact ⟨rfl, rfl⟩
  | finish => rcases endMessage_spec s with ⟨-, e⟩ | ⟨-, e⟩ <;> rw [e] <;> exact ⟨rfl, rfl⟩
  | _ => exact ⟨rfl, rfl⟩

theorem exec_turns {i : Instr} {s t : State} (h : exec i s = .next t) : t.turns = s.turns ∧ t.ticks = s.ticks := by
  obtain ⟨u, r, v, hu, he⟩ := exec_answers i s
  rw [he] at h
  cases h
  exact hu.turns

theorem windowComplete_turns (w : List F64) (s : State) :
    (windowComplete w s).turns = s.turns ∧ (windowComplete w s).ticks = s.ticks :=
  ⟨(windowComplete_effect w s).only.turns, (windowComplete_effect w s).only.ticks⟩

/-- No engine step touches the turns. -/
theorem engineStep_turns (s : State) : (engineStep s).turns = s.turns ∧ (engineStep s).ticks = s.ticks := by
  rcases engineStep_cases s with ⟨-, e⟩ | ⟨-, e⟩ | ⟨-, e⟩ | ⟨-, e⟩ | ⟨-, e⟩ | ⟨-, e⟩ <;> rw [e]
  · unfold consumeStep
    split
    · exact ⟨rfl, rfl⟩
    · unfold closeWindow
      split
      · exact windowComplete_turns _ _
      · exact ⟨rfl, rfl⟩
  · unfold drainStep
    dsimp only
    split
    · exact windowComplete_turns _ _
    · exact ⟨rfl, rfl⟩
  · have k := (phase2_effect s).1
    exact ⟨k.turns, k.ticks⟩
  · unfold deliverStep
    split <;> exact ⟨rfl, rfl⟩
  · exact ⟨rfl, rfl⟩
  · exact ⟨rfl, rfl⟩

/-- Every step uses up one turn and counts one, so that the listed turns end and the schedule takes over. -/
theorem step_turns {s t : State} (h : step s = .next t) : t.turns = s.turns.tail ∧ t.ticks = s.ticks + 1 := by
  cases step_turnEffect h with
  | engine _ =>
    exact engineStep_turns s.takeTurn
  | idle _ _ => exact ⟨rfl, rfl⟩
  | bus w rest _ _ _ he => exact exec_turns he
  | poll woff mask val rest u _ _ he =>
    unfold pollAgain
    split <;> exact exec_turns he
  | platform a rest _ _ _ he =>
    unfold platformStep at he
    split at he
    · exact exec_turns he
    · cases he; exact ⟨rfl, rfl⟩
    · cases he; exact ⟨rfl, rfl⟩
  | resetLine rest _ _ => exact ⟨rfl, rfl⟩

end Sys2Proof.Machine
end

