-- ==== Sys2Proof/Laws/Streams.lean ====
section
/-! SUPPORT. Bits read as numbers, the markers, and the equations of the framer and of the destuffer. -/

namespace Sys2Proof.Machine

/-- The bits of a list read as a number. -/
theorem bitsValue_testBit (l : List Bool) (i : Nat) : (bitsValue l).testBit i = l.getD i false := by
  induction l generalizing i with
  | nil => simp [bitsValue]
  | cons b rest ih =>
    have h2 : bitsValue (b :: rest) = Nat.bit b (bitsValue rest) := by
      rw [bitsValue, Nat.bit_val, Nat.add_comm]
    rw [h2]
    cases i with
    | zero => simp
    | succ i => rw [Nat.testBit_bit_succ, ih]; rfl

@[simp] theorem markerBits_length (pat : Word) (m : Nat) : (markerBits pat m).length = m := by simp [markerBits]

theorem hamming_le (b m : List Bool) (p : Nat) : hamming b m p ≤ m.length :=
  List.countP_le_length.trans (by simp)

/-- The framer skips the bits of an accepted frame. -/
theorem frameScan_skip (order : BitOrder) (b : List Bool) (k : Nat) :
    frameScan order b k = frameScan order (b.drop k) 0 := by
  induction b generalizing k with
  | nil => cases k <;> simp [frameScan]
  | cons x rest ih =>
    cases k with
    | zero => rfl
    | succ k => rw [frameScan, ih]; rfl

/-- Fewer than 10 bits: terminate (44_byte_framer.md R231). -/
theorem frameScan_short (order : BitOrder) (b : List Bool) (h : b.length < 10) : frameScan order b 0 = ⟨[], 0, 0⟩ := by
  cases b with
  | nil => rfl
  | cons x rest =>
    have h8 : rest[8]? = none := by simp at h ⊢; omega
    rw [frameScan, h8]

/-- A 1 is no start bit: hunt on. -/
theorem frameScan_hunt (order : BitOrder) (rest : List Bool) (h : 9 ≤ rest.length) :
    frameScan order (true :: rest) 0 = frameScan order rest 0 := by
  obtain ⟨x, hx⟩ : ∃ x, rest[8]? = some x := ⟨rest[8], by simp⟩
  rw [frameScan, hx]; rfl

/-- Start 0, 8 data bits, stop 1: accept. -/
theorem frameScan_accept (order : BitOrder) (data rest : List Bool) (h : data.length = 8) :
    frameScan order (false :: (data ++ true :: rest)) 0 =
      ⟨assemble data order :: (frameScan order rest 0).bytes, (frameScan order rest 0).acc + 1,
        (frameScan order rest 0).rej⟩ := by
  have hs : (data ++ true :: rest)[8]? = some true := by
    rw [List.getElem?_append_right (by omega), h]; rfl
  have ht : (data ++ true :: rest).take 8 = data := by rw [← h]; simp
  have hd : (data ++ true :: rest).drop 9 = rest := by
    have : (data ++ true :: rest) = (data ++ [true]) ++ rest := by simp
    rw [this, List.drop_left' (by simp [h])]
  rw [frameScan, hs, frameScan_skip order _ 9, ht, hd]; rfl

/-- Stop 0: slip by one bit. -/
theorem frameScan_slip (order : BitOrder) (data rest : List Bool) (h : data.length = 8) :
    frameScan order (false :: (data ++ false :: rest)) 0 =
      ⟨(frameScan order (data ++ false :: rest) 0).bytes, (frameScan order (data ++ false :: rest) 0).acc,
        (frameScan order (data ++ false :: rest) 0).rej + 1⟩ := by
  have hs : (data ++ false :: rest)[8]? = some false := by
    rw [List.getElem?_append_right (by omega), h]; rfl
  rw [frameScan, hs]; rfl

@[simp] theorem serialise_length (order : BitOrder) (b : Byte) : (serialise order b).length = 8 := by
  cases order <;> simp [serialise]

theorem unstuffFrom_pending (e b : Byte) (rest : List Byte) :
    unstuffFrom e true (b :: rest) = ((b ^^^ escapeMask) :: (unstuffFrom e false rest).1, (unstuffFrom e false rest).2) :=
  rfl

theorem unstuffFrom_escape (e : Byte) (rest : List Byte) :
    unstuffFrom e false (e :: rest) = unstuffFrom e true rest := by simp [unstuffFrom]

theorem unstuffFrom_other {e b : Byte} (h : b ≠ e) (rest : List Byte) :
    unstuffFrom e false (b :: rest) = (b :: (unstuffFrom e false rest).1, (unstuffFrom e false rest).2) := by
  simp [unstuffFrom, h]

end Sys2Proof.Machine
end

