-- ==== Sys2Proof/Tests/Slice0.lean ====
section
/-! SUPPORT. The model's own tests: refused terms, words written out from the encoding, the vectors of
spec/95_test_vectors.md, and for every statement with hypotheses a concrete case that meets them. -/

-- one theorem after another: a thread for each takes too much memory
set_option Elab.async false

namespace Sys2Proof.Tests
open Sys2Proof.Machine Sys2Proof.Claims

/-! ## Terms that are no instruction (30_encoding.md R104, R109) -/

theorem test_wellFormed_refuses_nop_word : wellFormed (.cmdReserved 0) = false := by decide
theorem test_wellFormed_refuses_start_word : wellFormed (.cmdReserved 1) = false := by decide
theorem test_wellFormed_refuses_end_word : wellFormed (.cmdReserved 2) = false := by decide
theorem test_wellFormed_refuses_abort_word : wellFormed (.cmdReserved 3) = false := by decide
theorem test_wellFormed_refuses_softReset_word : wellFormed (.cmdReserved 4) = false := by decide
theorem test_wellFormed_accepts_reserved_words :
    wellFormed (.cmdReserved 5) = true ∧ wellFormed (.cmdReserved 0x11) = true := by decide

/-! ## One word of every row, written out: RW·2^38 + WOFF·2^32 + DATA (30_encoding.md R100) -/

theorem test_decode_rows_0_to_18 :
    [0x40A5C30F01, 0x0000000000, 0x41A5C30F03, 0x0100000000, 0x42A5C30F05, 0x0200000000,
      0x43A5C30F07, 0x0300000000, 0x44A5C30F09, 0x0400000000, 0x45A5C30F0B, 0x0500000000,
      0x4600000000, 0x4600000001, 0x4600000002, 0x4600000003, 0x4600000004, 0x4610000001,
      0x0600000000].map decodeBus =
    [.wrIdRefused 0xA5C30F01, .rdId, .wrVersionRefused 0xA5C30F03,
      .rdVersion, .wrParamWinRefused 0xA5C30F05, .rdParamWin,
      .wrParamBitbufRefused 0xA5C30F07, .rdParamBitbuf, .wrParamFifoRefused 0xA5C30F09,
      .rdParamFifo, .wrCtrl 0xA5C30F0B, .rdCtrl,
      .cmdNop, .cmdStart, .cmdEnd,
      .cmdAbort, .cmdSoftReset, .cmdReserved 0x10000001,
      .rdCmdReturns0] := by decide +kernel

theorem test_decode_rows_19_to_37 :
    [0x47A5C30F14, 0x0700000000, 0x48A5C30F16, 0x0800000000, 0x49A5C30F18, 0x0900000000,
      0x4AA5C30F1A, 0x0A00000000, 0x4BA5C30F1C, 0x0B00000000, 0x4CA5C30F1E, 0x0C00000000,
      0x4DA5C30F20, 0x0D00000000, 0x4EA5C30F22, 0x0E00000000, 0x4FA5C30F24, 0x0F00000000,
      0x50A5C30F26].map decodeBus =
    [.wrStatusRefused 0xA5C30F14, .rdStatus, .wrEvents 0xA5C30F16,
      .rdEvents, .wrIntEn 0xA5C30F18, .rdIntEn,
      .wrSampleRate 0xA5C30F1A, .rdSampleRate, .wrBaud 0xA5C30F1C,
      .rdBaud, .wrMarkFreq 0xA5C30F1E, .rdMarkFreq,
      .wrSpaceFreq 0xA5C30F20, .rdSpaceFreq, .wrBiasLo 0xA5C30F22,
      .rdBiasLo, .wrBiasHi 0xA5C30F24, .rdBiasHi,
      .wrNoiseFloorLo 0xA5C30F26] := by decide +kernel

theorem test_decode_rows_38_to_56 :
    [0x1000000000, 0x51A5C30F28, 0x1100000000, 0x52A5C30F2A, 0x1200000000, 0x53A5C30F2C,
      0x1300000000, 0x54A5C30F2E, 0x1400000000, 0x55A5C30F30, 0x1500000000, 0x56A5C30F32,
      0x1600000000, 0x57A5C30F34, 0x1700000000, 0x58A5C30F36, 0x1800000000, 0x59A5C30F38,
      0x1900000000].map decodeBus =
    [.rdNoiseFloorLo, .wrNoiseFloorHi 0xA5C30F28, .rdNoiseFloorHi,
      .wrAmpFloorLo 0xA5C30F2A, .rdAmpFloorLo, .wrAmpFloorHi 0xA5C30F2C,
      .rdAmpFloorHi, .wrHeadPat 0xA5C30F2E, .rdHeadPat,
      .wrTailPat 0xA5C30F30, .rdTailPat, .wrSyncCfg 0xA5C30F32,
      .rdSyncCfg, .wrHeadWin 0xA5C30F34, .rdHeadWin,
      .wrTailWin 0xA5C30F36, .rdTailWin, .wrEscape 0xA5C30F38,
      .rdEscape] := by decide +kernel

theorem test_decode_rows_57_to_75 :
    [0x5AA5C30F3A, 0x1A00000000, 0x5BA5C30F3C, 0x1B00000000, 0x5CA5C30F3E, 0x1C00000000,
      0x5DA5C30F40, 0x1D00000000, 0x5EA5C30F42, 0x1E00000000, 0x5FA5C30F44, 0x1F00000000,
      0x60A5C30F46, 0x2000000000, 0x61A5C30F48, 0x2100000000, 0x62A5C30F4A, 0x2200000000,
      0x63A5C30F4C].map decodeBus =
    [.wrSampleLo 0xA5C30F3A, .rdSampleLoReturns0, .wrSampleHi 0xA5C30F3C,
      .rdSampleHiReturns0, .wrSfifoLevelRefused 0xA5C30F3E, .rdSfifoLevel,
      .wrOutDataRefused 0xA5C30F40, .rdOutData, .wrOutLevelRefused 0xA5C30F42,
      .rdOutLevel, .wrSampleCountRefused 0xA5C30F44, .rdSampleCount,
      .wrSymbolCountRefused 0xA5C30F46, .rdSymbolCount, .wrDropCountRefused 0xA5C30F48,
      .rdDropCount, .wrUnkCountRefused 0xA5C30F4A, .rdUnkCount,
      .wrBitlostCountRefused 0xA5C30F4C] := by decide +kernel

theorem test_decode_rows_76_to_94 :
    [0x2300000000, 0x64A5C30F4E, 0x2400000000, 0x65A5C30F50, 0x2500000000, 0x66A5C30F52,
      0x2600000000, 0x67A5C30F54, 0x2700000000, 0x68A5C30F56, 0x2800000000, 0x69A5C30F58,
      0x2900000000, 0x6AA5C30F5A, 0x2A00000000, 0x6BA5C30F5C, 0x2B00000000, 0x6CA5C30F5E,
      0x2C00000000].map decodeBus =
    [.rdBitlostCount, .wrLastPmarkLoRefused 0xA5C30F4E, .rdLastPmarkLo,
      .wrLastPmarkHiRefused 0xA5C30F50, .rdLastPmarkHi, .wrLastPspaceLoRefused 0xA5C30F52,
      .rdLastPspaceLo, .wrLastPspaceHiRefused 0xA5C30F54, .rdLastPspaceHi,
      .wrPeakAmpLoRefused 0xA5C30F56, .rdPeakAmpLo, .wrPeakAmpHiRefused 0xA5C30F58,
      .rdPeakAmpHi, .wrSyncResultRefused 0xA5C30F5A, .rdSyncResult,
      .wrHeadPosRefused 0xA5C30F5C, .rdHeadPos, .wrTailPosRefused 0xA5C30F5E,
      .rdTailPos] := by decide +kernel

theorem test_decode_rows_95_to_113 :
    [0x6DA5C30F60, 0x2D00000000, 0x6EA5C30F62, 0x2E00000000, 0x6FA5C30F64, 0x2F00000000,
      0x70A5C30F66, 0x3000000000, 0x71A5C30F68, 0x3100000000, 0x72A5C30F6A, 0x3200000000,
      0x73A5C30F6C, 0x3300000000, 0x74A5C30F6E, 0x3400000000, 0x75A5C30F70, 0x3500000000,
      0x76A5C30F72].map decodeBus =
    [.wrPayloadStartRefused 0xA5C30F60, .rdPayloadStart, .wrPayloadEndRefused 0xA5C30F62,
      .rdPayloadEnd, .wrFrameCountRefused 0xA5C30F64, .rdFrameCount,
      .wrFrameErrCountRefused 0xA5C30F66, .rdFrameErrCount, .wrOutTotalRefused 0xA5C30F68,
      .rdOutTotal, .wrBitbufAddr 0xA5C30F6A, .rdBitbufAddr,
      .wrBitbufDataRefused 0xA5C30F6C, .rdBitbufData, .wrBitbufUnkRefused 0xA5C30F6E,
      .rdBitbufUnk, .wrReservedD4Refused 0xA5C30F70, .rdReservedD4Refused,
      .wrReservedD8Refused 0xA5C30F72] := by decide +kernel

theorem test_decode_rows_114_to_132 :
    [0x3600000000, 0x77A5C30F74, 0x3700000000, 0x78A5C30F76, 0x3800000000, 0x79A5C30F78,
      0x3900000000, 0x7AA5C30F7A, 0x3A00000000, 0x7BA5C30F7C, 0x3B00000000, 0x7CA5C30F7E,
      0x3C00000000, 0x7DA5C30F80, 0x3D00000000, 0x7EA5C30F82, 0x3E00000000, 0x7FA5C30F84,
      0x3F00000000].map decodeBus =
    [.rdReservedD8Refused, .wrReservedDcRefused 0xA5C30F74, .rdReservedDcRefused,
      .wrReservedE0Refused 0xA5C30F76, .rdReservedE0Refused, .wrReservedE4Refused 0xA5C30F78,
      .rdReservedE4Refused, .wrReservedE8Refused 0xA5C30F7A, .rdReservedE8Refused,
      .wrReservedEcRefused 0xA5C30F7C, .rdReservedEcRefused, .wrReservedF0Refused 0xA5C30F7E,
      .rdReservedF0Refused, .wrReservedF4Refused 0xA5C30F80, .rdReservedF4Refused,
      .wrReservedF8Refused 0xA5C30F82, .rdReservedF8Refused, .wrReservedFcRefused 0xA5C30F84,
      .rdReservedFcRefused] := by decide +kernel

/-- A read's DATA is ignored (30_encoding.md R100). -/
theorem test_decode_read_ignores_data : decodeBus 0x07FFFFFFFF = .rdStatus := by decide +kernel

/-- Fewer than 5 bytes, or bit 39 set, is no transaction (log 13). -/
theorem test_decodeBytes_refuses :
    decodeBytes [1, 2, 3, 4] = .error .truncated ∧
    decodeBytes [0, 0, 0, 0, 0x80] = .error .notABusTransaction := by decide +kernel

theorem test_decodeBytes_start : decodeBytes [1, 0, 0, 0, 0x46, 7] = .ok (.cmdStart, [7]) := by decide +kernel

theorem test_table_word : decodeTableWord 40 0x5B3FF00000 = some (.wrSampleHi 0x3FF00000) := by decide +kernel

/-! ## Small states -/

/-- `s` with one input for the host, in the host's turn. -/
def hostMoves (i : Input) (s : State) : State := { s with inbox := [i], turns := [.host] }

/-- `s` in the engine's turn. -/
def engineMoves (s : State) : State := { s with turns := [.engine] }

/-- What a step or an access leaves of the state, where it answers. -/
def leaves {α : Type} (o : Host.Outcome State Fault Refusal) (f : State → α) : Option α :=
  match o with
  | .next t => some (f t)
  | .fault _ => none
  | .refused _ => none

/-- The state after, or the state before where there is none. -/
def stateAfter (o : Host.Outcome State Fault Refusal) (s : State) : State :=
  match o with
  | .next t => t
  | .fault _ => s
  | .refused _ => s

/-- The last response. -/
def lastResp (s : State) : Option BusResp := s.responses.head?

/-- RUN after reset, with small stores, a window of 4 samples, mark at bin 1 and space at bin 2 (95 L3). -/
def running : State := { State.reset with
  state := .run
  params := { winMax := 8, bitbufDepth := 4, sfifoDepth := 2, ofifoDepth := 2 }
  cfg := { ConfigRegs.reset with sampleRate := 4, baud := 1, markFreq := 1, spaceFreq := 2 } }

/-- RUN with samples waiting. -/
def waiting (samples : List F64) : State := { running with msg := { Message.clear with sfifo := samples } }

/-- FINISH at DELIVER with entries left and entries delivered. -/
def delivering (left delivered : List Word) : State := { running with
  state := .finish
  msg := { Message.clear with fphase := .deliver, outseq := left, ofifo := delivered } }

/-- FINISH in a sub-phase. -/
def finishing (p : FPhase) : State := { running with state := .finish, msg := { Message.clear with fphase := p } }

/-- A bit stream written earliest first. -/
def stream (digits : List Nat) : List Bool := digits.map (· == 1)

/-- Symbols with no unknown mark. -/
def symbols (bits : List Bool) : List Symbol := bits.map fun b => ⟨b, false⟩

/-! ## Host operations (95 L2.7) -/

/-- HO-1. -/
theorem test_HO1 :
    [Instr.rdId, .rdVersion, .rdParamWin, .rdParamBitbuf, .rdParamFifo].map
      (fun i => leaves (exec i .reset) lastRdata) =
    [some 0x47545A31, some 0x00010000, some 0x00001000, some 0x00010000, some 0x01000100] := by decide +kernel

/-- HO-2. -/
theorem test_HO2 :
    [Instr.rdStatus, .rdSyncCfg, .rdBiasHi, .rdEscape].map (fun i => leaves (exec i .reset) lastRdata) =
    [some 0x00000000, some 0x00010808, some 0x3FF00000, some 0x0000007D] := by decide +kernel

/-- HO-3, HO-4, HO-5. -/
theorem test_HO3_to_HO5 :
    [Instr.wrIdRefused 5, .rdReservedD4Refused, .wrReservedD4Refused 5].map
      (fun i => leaves (exec i .reset) fun t => (lastResp t, t.events)) =
    [some (some ⟨.busErr, 0⟩, 0), some (some ⟨.busErr, 0⟩, 0), some (some ⟨.busErr, 0⟩, 0)] := by decide +kernel

/-- HO-6. -/
theorem test_HO6 : leaves (exec .rdCmdReturns0 .reset) lastResp = some (some ⟨.ok, 0⟩) := by decide +kernel

/-- HO-7. -/
theorem test_HO7 : leaves (exec (.wrSyncCfg 0xFFFFFFFF) .reset) (·.cfg.syncCfg) = some 0x003F3F3F := by
  decide +kernel

/-- HO-8. -/
theorem test_HO8 : leaves (exec (.wrCtrl 0xFFFFFFFF) .reset) (·.cfg.ctrl) = some 0x0000003F := by decide +kernel

/-- HO-9. -/
theorem test_HO9 : leaves (exec (.wrEscape 0x1234) .reset) (·.cfg.escape) = some 0x00000034 := by decide +kernel

/-- HO-10. -/
theorem test_HO10 : leaves (exec (.wrIntEn 0xFFFFFFFF) .reset) (·.intEn) = some 0x00001FFF := by decide +kernel

/-- START from reset with one configuration changed: the state and EVENTS after it. -/
def startWith (c : ConfigRegs) : Option (EngineState × Word) :=
  leaves (exec .cmdStart { State.reset with cfg := c }) fun t => (t.state, t.events)

/-- HO-11 to HO-16 and HO-18: configurations that fail validation. -/
theorem test_HO11_to_HO18_refused :
    [{ ConfigRegs.reset with ctrl := 0x30 }, { ConfigRegs.reset with markFreq := 1200 },
      { ConfigRegs.reset with sampleRate := 1000 }, { ConfigRegs.reset with syncCfg := 0x00010821 },
      { ConfigRegs.reset with syncCfg := 0x00010008 }, { ConfigRegs.reset with sampleRate := 4097, baud := 1 },
      { ConfigRegs.reset with baud := 0 }].map startWith =
    List.replicate 7 (some (.error, 2)) := by decide +kernel

/-- HO-17, HO-19, HO-20: configurations that pass. -/
theorem test_HO17_to_HO20_accepted :
    [{ ConfigRegs.reset with sampleRate := 4096, baud := 1 }, { ConfigRegs.reset with markFreq := 0 },
      { ConfigRegs.reset with syncCfg := 0x003F2020 }].map startWith =
    List.replicate 3 (some (.run, 0)) := by decide +kernel

/-- HO-21, HO-22, HO-23: illegal commands. -/
theorem test_HO21_to_HO23 :
    [leaves (exec (decodeBus 0x4600000011) .reset) (fun t => (t.state, t.events)),
      leaves (exec .cmdEnd .reset) (fun t => (t.state, t.events)),
      leaves (exec .cmdStart running) fun t => (t.state, t.events)] =
    [some (.idle, 4), some (.idle, 4), some (.run, 4)] := by decide +kernel

/-- HO-24. -/
theorem test_HO24 : leaves (exec (.wrSampleHi 0x3FF00000) .reset) (fun t => (t.events, t.msg.sampleCount)) =
    some (8, 0) := by decide +kernel

/-- HO-25, the third push. -/
theorem test_HO25 :
    leaves (exec (.wrSampleHi 0) (waiting [0, 0]))
      (fun t => (t.events, t.msg.sampleCount, t.msg.sfifo.length, statusWord t)) =
    some (0x10, 0, 2, 0x00000011) := by decide +kernel

/-- HO-27. -/
theorem test_HO27 : leaves (exec (.wrSampleHi 0x7FF00000) { running with loLatch := 1 })
    (fun t => (t.events, t.msg.sampleCount, t.msg.sfifo)) = some (0x40, 1, [0x7FF0000000000001]) := by
  decide +kernel

/-- HO-28. -/
theorem test_HO28 : leaves (exec (.wrBaud 5) { running with events := 0x40 }) (fun t => (t.events, t.cfg.baud)) =
    some (0x1040, 1) := by decide +kernel

/-- HO-29. -/
theorem test_HO29 :
    leaves (exec .cmdAbort { running with events := 0x1040, msg := { Message.clear with sampleCount := 2 } })
      (fun t => (t.state, t.msg.sampleCount, t.events)) = some (.idle, 0, 0x1040) := by decide +kernel

/-- HO-30. -/
theorem test_HO30 : leaves (exec .cmdSoftReset { running with events := 0x1040, loLatch := 1 })
    (fun t => (t.state, t.events, t.loLatch, t.cfg.baud)) = some (.idle, 0, 0, 1200) := by decide +kernel

/-- HO-31, the second push. -/
theorem test_HO31 : leaves (exec (.wrSampleHi 0x3FF00000) { running with loLatch := 0x9999999A }) (·.msg.sfifo) =
    some [0x3FF000009999999A] := by decide +kernel

/-- HO-32. -/
theorem test_HO32 : leaves (exec (.wrEvents 1) { State.reset with events := 0x1503 }) (·.events) = some 0x1502 := by
  decide +kernel

/-- HO-33. -/
theorem test_HO33 : leaves (exec (.wrIntEn 1) { State.reset with events := 1 }) irq = some true := by decide +kernel

/-- 40_host_ops.md R142: the head entry is returned and removed. -/
theorem test_rdOutData :
    leaves (exec .rdOutData (delivering [] [0x80000154, 0x80000145])) (fun t => (lastRdata t, t.msg.ofifo)) =
    some (0x80000154, [0x80000145]) := by decide +kernel

/-- 95 L1.1: the three words of the bit stream of the "TEST" message. -/
theorem test_bitbuf_words :
    let b := stream [0,0,1,0,0,1,0,0, 0,0,0,1,0,1,0,1,0,1, 0,1,0,1,0,0,0,1,0,1, 0,1,1,0,0,1,0,1,0,1,
      0,0,0,1,0,1,0,1,0,1, 0,0,1,0,0,0,1,1]
    [bitWord b 0, bitWord b 1, bitWord b 2, bitWord b 0xFFFFFFFF] = [0x6A2AA824, 0x00C4AA2A, 0, 0] := by
  decide +kernel

/-! ## Bin index, coefficient, power (95 L2.1, L2.2) -/

/-- BIN-1 to BIN-15, the index. -/
theorem test_BIN_index :
    [binIndex 40 2200 48000, binIndex 40 1200 48000, binIndex 20 1200 48000, binIndex 20 2200 48000,
      binIndex 21 1200 48000, binIndex 3 1 2, binIndex 5 1 2, binIndex 40 48000 48000, binIndex 1 2200 48000,
      binIndex 4096 4294967295 1] = [2, 1, 0, 1, 1, 2, 2, 40, 0, 17592186040320] := by decide +kernel

/-- BIN-1, BIN-2, BIN-5, BIN-7, BIN-10, the coefficient. -/
theorem test_BIN_coefficient :
    [defaultCoeff 2 40, defaultCoeff 1 40, defaultCoeff 1 21, defaultCoeff 1 4, defaultCoeff 2 5] =
    [0x3FFE6F0E134454FF, 0x3FFF9B24942FE45C, 0x3FFE940D6BB98CC5, 0, 0xBFF9E3779B97F4A8] := by decide +kernel

/-- GZ-1, GZ-2, GZ-4, GZ-6, GZ-12, GZ-13, GZ-14. -/
theorem test_GZ :
    [goertzel 0 [0, 0x3FF0000000000000, 0, 0xBFF0000000000000] 0,
      goertzel 0 [0, 0x3FF0000000000000, 0, 0xBFF0000000000000] 0xC000000000000000,
      goertzel 0 [0x3FF0000000000000, 0xBFF0000000000000, 0x3FF0000000000000, 0xBFF0000000000000]
        0xC000000000000000,
      goertzel 0 [0x3FF0000000000000] 0x4000000000000000,
      goertzel 0 [0x3FF0000000000000, 0, 0, 0] 0x3FFE6F0E134454FF,
      goertzel 0 [0x6974E718D7D7625A, 0x6974E718D7D7625A, 0, 0] 0,
      goertzel 0 [0x3FE0000000000000, 0x3FD0000000000000] 0x3FF0000000000000] =
    [0x4010000000000000, 0, 0x4030000000000000, 0x3FF0000000000000, 0x3FF0000000000000, 0x7FF0000000000000,
      0x3FDC000000000000] := by decide +kernel

/-- GZ-10, GZ-11: a NaN, whatever is drawn. -/
theorem test_GZ_nan :
    isNaN (goertzel 0 [0x3FF0000000000000, 0x7FF8000000000000, 0x3FF0000000000000] 0) = true ∧
    isNaN (goertzel 0 [0x7FF0000000000000, 0, 0, 0] 0) = true := by decide +kernel

/-! ## Slicer (95 L2.3) -/

/-- One slice: CTRL, BIAS, mark power, space power. -/
def sliceOf (ctrl biasHi : Word) (pm ps : F64) : Bool :=
  slice { ConfigRegs.reset with ctrl := ctrl, biasHi := biasHi } pm ps

/-- SL-1 to SL-4, SL-7, SL-8, SL-14, SL-15. -/
theorem test_SL_slice :
    [sliceOf 0 0x3FF00000 0x4010000000000000 0, sliceOf 0 0x3FF00000 0 0x4030000000000000,
      sliceOf 0 0x3FF00000 0x3FF0000000000000 0x3FF0000000000000,
      sliceOf 4 0x3FF00000 0x3FF0000000000000 0x3FF0000000000000,
      sliceOf 0 0x40000000 0x4008000000000000 0x4000000000000000,
      sliceOf 4 0x40000000 0x4008000000000000 0x4000000000000000,
      sliceOf 0 0x3FF00000 0x7FF0000000000000 0x7FF0000000000000,
      sliceOf 0 0 0x7FF0000000000000 0] =
    [true, false, false, true, false, true, false, true] := by decide +kernel

/-- SL-10 to SL-13: gating with NOISE_FLOOR 1.0. -/
theorem test_SL_gated :
    let c (ctrl : Word) : ConfigRegs := { ConfigRegs.reset with ctrl := ctrl, noiseFloorHi := 0x3FF00000 }
    [gated (c 0x10) 0x3FE0000000000000 0x3FD0000000000000, gated (c 0x10) 0x3FE0000000000000 0x4000000000000000,
      gated (c 0x20) 0 0, gated (c 0x10) 0x7FF8000000000000 0, gated (c 0) 0 0] =
    [true, false, true, false, false] := by decide +kernel

/-- 95 L2.3: a fifth symbol with BITBUF_DEPTH 4. -/
theorem test_bitbuf_full :
    (let t := storeSymbol true false
      { running with msg := { Message.clear with bitbuf := symbols [true, true, true, true] } }
    (t.msg.bitbuf.length, t.msg.bitlostCount, t.events)) = (4, 1, 0x20) := by decide +kernel

/-! ## Synchronizer, framer, destuffer (95 L2.4 to L2.6) -/

/-- LOC-1, LOC-3, LOC-5, LOC-6, LOC-7, LOC-9, LOC-10, LOC-12. -/
theorem test_LOC :
    let h := markerBits 0xFFFFFF24 8
    let b := stream [0,0,1,0,0,1,0,1,0,0,1,0,0,1,0,0]
    [locate b h 1 0, locate b h 1 8, locate (stream [1,1,1,1,1,1,1,1,0,0,1,0,0,1,0,0]) h 0 0,
      locate (stream [0,0,1,0,0,1,0]) h 8 0, locate (stream [0,0,1,0,0,1,0,1]) h 0 0,
      locate (stream [0,0,0,0,0,0,0,0]) h 2 0, locate (stream [1,1,1,1,1,1,1,1,1,1]) h 8 0,
      locate (stream [0,1,1,0,0,1,0,0,0,0,1,0,0,1,0,0]) h 1 0] =
    [some (8, 0), some (0, 1), some (8, 0), none, none, some (0, 2), some (0, 6), some (8, 0)] := by
  decide +kernel

/-- FR-1, FR-2, FR-3, FR-4, FR-8, FR-9, FR-12, FR-13. -/
theorem test_FR :
    [decodeFrames (stream [0,1,0,0,0,0,0,1,0,1]) .lsbFirst, decodeFrames (stream [0,1,0,0,0,0,0,1,0,1]) .msbFirst,
      decodeFrames (stream [1,1,1,0,1,0,0,0,0,0,1,0,1]) .lsbFirst,
      decodeFrames (stream [0,0,1,0,0,0,0,0,1,0,1]) .lsbFirst,
      decodeFrames (stream [0,1,0,0,0,0,0,1,0]) .lsbFirst,
      decodeFrames (stream [0,0,0,0,0,0,0,0,0,0]) .lsbFirst,
      decodeFrames (stream [0,1,0,0,0,0,0,1,0,1,0,1,0,0,0,0,1,0,0,1]) .lsbFirst,
      decodeFrames (stream [0,0,0,0,0,0,0,0,0,0,0,1,0,0,0,0,0,1,0,1]) .lsbFirst] =
    [⟨[0x41], 1, 0⟩, ⟨[0x82], 1, 0⟩, ⟨[0x41], 1, 0⟩, ⟨[0x41], 1, 1⟩, ⟨[], 0, 0⟩, ⟨[], 0, 1⟩, ⟨[0x41, 0x21], 2, 0⟩,
      ⟨[0x00], 1, 2⟩] := by decide +kernel

/-- DS-1 to DS-4, DS-7, DS-9. -/
theorem test_DS :
    [unstuff [0x41, 0x7D, 0x5D, 0x42] 0x7D, unstuff [0x7D, 0x7D] 0x7D, unstuff [0x41, 0x7D] 0x7D,
      unstuff [0x7D] 0x7D, unstuff [0x41, 0x42] 0x41, unstuff [0x00, 0x20] 0x00] =
    [([0x41, 0x7D, 0x42], false), ([0x5D], false), ([0x41], true), ([], true), ([0x62], false),
      ([0x00], false)] := by decide +kernel

/-- 95 L2.6, the entries. -/
theorem test_entries :
    [outEntry 0x00, outEntry 0x1F, outEntry 0x20, outEntry 0x7E, outEntry 0x7F, outEntry 0xFF] =
    [0x80000000, 0x8000001F, 0x80000120, 0x8000017E, 0x8000007F, 0x800000FF] := by decide +kernel

/-! ## Engine steps (95 L3) -/

/-- The last sample of `sym M` (0, 1, 0, -1): power 4.0 against 0.0, bit 1. -/
theorem test_consume_sym_M :
    (let t := engineStep { running with msg := { Message.clear with
      winbuf := [0, 0x3FF0000000000000, 0], sfifo := [0xBFF0000000000000] } }
    (t.msg.lastPm, t.msg.lastPs, t.msg.bitbuf, t.msg.winbuf, t.msg.sfifo)) =
    (0x4010000000000000, 0, [⟨true, false⟩], [], []) := by decide +kernel

/-- The last sample of `sym S` (1, -1, 1, -1): power 0.0 against 16.0, bit 0; PEAK 1.0. -/
theorem test_consume_sym_S :
    (let t := engineStep { running with msg := { Message.clear with
      winbuf := [0x3FF0000000000000, 0xBFF0000000000000, 0x3FF0000000000000], sfifo := [0xBFF0000000000000] } }
    (t.msg.lastPm, t.msg.lastPs, t.msg.bitbuf, t.msg.peak)) =
    (0, 0x4030000000000000, [⟨false, false⟩], 0x3FF0000000000000) := by decide +kernel

/-- 40_host_ops.md R153: with N = 4 a residue of 1 is discarded, one of 2 is kept. -/
theorem test_drain :
    [engineStep { finishing .drain with msg := { Message.clear with winbuf := [0] } },
      engineStep { finishing .drain with msg := { Message.clear with winbuf := [0, 0] } }].map
      (fun t => (t.msg.bitbuf.length, t.msg.winbuf, t.msg.fphase)) = [(0, [], .compute), (1, [], .compute)] := by
  decide +kernel

/-- 95 P1: preamble, 'A' LSB-first, tail; COMPUTE leaves one entry and all three flags. -/
theorem test_compute_P1 :
    (let t := engineStep { finishing .compute with msg := { (finishing .compute).msg with
      bitbuf := symbols (stream [0,0,1,0,0,1,0,0, 0,1,0,0,0,0,0,1,0,1, 0,0,1,0,0,0,1,1]) } }
    (t.msg.outseq, [t.msg.syncResult, t.msg.headPos, t.msg.tailPos, t.msg.payloadStart, t.msg.payloadEnd,
      t.msg.frameCount, t.msg.outTotal, t.events], t.msg.fphase)) =
    ([0x80000141], [7, 0, 0x12, 8, 0x12, 1, 1, 0], .deliver) := by decide +kernel

/-- 95 L2.4: the head at 0 and no tail, lenient and strict. -/
theorem test_compute_tail_miss :
    [0, 2].map (fun ctrl =>
      let t := engineStep { finishing .compute with
        cfg := { running.cfg with ctrl := ctrl, syncCfg := 0x00000808 }
        msg := { Message.clear with fphase := .compute, bitbuf := symbols (stream [0,0,1,0,0,1,0,0, 1,1]) } }
      (t.msg.syncResult, t.msg.payloadStart, t.msg.payloadEnd, t.events, t.msg.outseq)) =
    [(5, 8, 10, 0x200, []), (5, 0, 0, 0x600, [])] := by decide +kernel

/-- 40_host_ops.md R155, R156: delivery, the hold, completion. -/
theorem test_deliver_hold_complete :
    [engineStep (delivering [1, 2] [3]), engineStep (delivering [1] [3, 4]), engineStep (delivering [] [3, 4])].map
      (fun t => (t.state, t.msg.outseq, t.msg.ofifo, t.events)) =
    [(.finish, [2], [3, 1], 0), (.finish, [1], [3, 4], 0), (.done, [], [3, 4], 1)] := by decide +kernel

/-! ## Steps -/

/-- A table word stored where the host fetches is run by the next step. -/
theorem test_withFetchWord :
    leaves (step (State.reset.withFetchWord 40 0x4600000001)) (fun t => (t.state, t.inbox, lastResp t)) =
    some (.run, [], some ⟨.ok, 0⟩) := by decide +kernel

/-- 30_encoding.md R110: a poll of STATUS for DONE stays where the state is RUN. -/
theorem test_poll : leaves (step (hostMoves (.poll 7 7 3) running)) (fun t => (t.inbox, lastRdata t)) =
    some ([.poll 7 7 3], 1) := by decide +kernel

/-- 30_encoding.md R110 and 40_host_ops.md R141: the host notation as words; `push 0.1` is two writes. -/
theorem test_host_notation :
    hostPush 0x3FB999999999999A ++ hostPushHi 0x3FF0000000000000 ++ hostCmd 2 ++ hostRd .outData ++
      hostWr (.cfg .baud) 1 ++ hostPoll .status 7 3 =
    [.bus 0x5A9999999A, .bus 0x5B3FB99999, .bus 0x5B3FF00000, .bus 0x4600000002, .bus 0x1D00000000,
      .bus 0x4B00000001, .poll 7 7 3] := by decide +kernel

/-- 20_memory.md R75: what the adapter forwards and refuses, for a block at 0x1000. -/
theorem test_adapter :
    [adapt 0x1000 ⟨true, 0x1018, .word, 1⟩, adapt 0x1000 ⟨false, 0x10FC, .word, 1⟩,
      adapt 0x1000 ⟨true, 0x1019, .word, 1⟩, adapt 0x1000 ⟨true, 0x1018, .half, 1⟩,
      adapt 0x1000 ⟨true, 0x1100, .word, 1⟩] =
    [.forward 0x4600000001, .forward 0x3F00000000, .busError 0x19, .busError 0x18, .elsewhere] := by
  decide +kernel

/-- Whose turn it is past the listed turns: two turns of the host, one of the engine, one of the engine, one of the
host, one of the engine (20_memory.md R71; log 2). -/
theorem test_scheduled :
    (List.range 6).map (scheduled fun k => if k = 0 then 2 else if k = 1 then 0 else 1) =
    [.host, .host, .engine, .engine, .host, .engine] := by decide +kernel

/-! ## A case that meets the hypotheses of each statement -/

theorem witness_StepRunsDecodedTransaction :
    let s := hostMoves (.bus (busWord true 6 1)) .reset
    nextAgent s = .host ∧ s.inbox = .bus (busWord true 6 1) :: [] ∧ decodeBus (busWord true 6 1) = .cmdStart ∧
    wellFormed .cmdStart = true ∧ s.turns = .host :: [] := by decide +kernel

theorem witness_OtherInputs_empty : nextAgent { running with turns := [.host] } = .host ∧ running.inbox = [] := by
  decide +kernel

theorem witness_OtherInputs_poll :
    let s := hostMoves (.poll 7 7 3) running
    nextAgent s = .host ∧ s.inbox = .poll 7 7 3 :: [] ∧
    ∃ t, exec (decodeBus (busWord false 7 0)) { s with inbox := [], turns := [], ticks := 1 } = .next t :=
  ⟨rfl, rfl, _, rfl⟩

/-- The last word of the space is forwarded, a byte of it is refused, and the address after it is not the block's. -/
theorem witness_OtherInputs_platform :
    let a (off : Nat) (size : AccessSize) : PlatformAccess := ⟨true, Config.base + off, size, 1⟩
    let s (off : Nat) (size : AccessSize) := hostMoves (.platform (a off size)) running
    (nextAgent (s 0xFC .word) = .host ∧ (s 0xFC .word).inbox = .platform (a 0xFC .word) :: []) ∧
    (Config.base ≤ (a 0xFC .word).addr ∧ (a 0xFC .word).addr < Config.base + 256 ∧
      ((a 0xFC .word).addr - Config.base) % 4 = 0) ∧
    (Config.base ≤ (a 0xFF .byte).addr ∧ (a 0xFF .byte).addr < Config.base + 256 ∧
      ¬ ((a 0xFF .byte).size = .word ∧ ((a 0xFF .byte).addr - Config.base) % 4 = 0)) ∧
    ¬ (Config.base ≤ (a 0x100 .word).addr ∧ (a 0x100 .word).addr < Config.base + 256) := by
  refine ⟨⟨rfl, rfl⟩, ⟨?_, ?_, ?_⟩, ⟨?_, ?_, ?_⟩, ?_⟩ <;> simp

theorem witness_OutDataReadPops :
    running.msg.ofifo = [] ∧ (delivering [] [0x80000154]).msg.ofifo = 0x80000154 :: [] := by decide +kernel

/-- The least code that is no command, and a code with bit 4 set. -/
theorem witness_CommandDispatch :
    wellFormed (.cmdReserved 5) = true ∧ wellFormed (.cmdReserved 0x10) = true ∧ wellFormed (.cmdReserved 4) = false := by
  decide +kernel

theorem witness_StartOpensAMessage :
    running.state = .run ∧ (finishing .drain).state = .finish ∧
    (State.reset.state = .idle ∧ validConfig State.reset.params.winMax State.reset.cfg = true) ∧
    (let s := { State.reset with cfg := { ConfigRegs.reset with baud := 0 } }
    s.state = .idle ∧ validConfig s.params.winMax s.cfg = false) := by decide +kernel

theorem witness_WritesOfReadOnlyRegistersAreRefused : regAccess .id = .ro ∧ regAccess .outData = .rp := by
  decide +kernel

theorem witness_EndClosesTheMessage : running.state = .run ∧ State.reset.state ≠ .run := by decide +kernel

theorem witness_AbortDiscardsTheMessage : ∃ t u, exec .cmdAbort running = .next t ∧ exec .cmdAbort t = .next u :=
  ⟨_, _, rfl, rfl⟩

theorem witness_ResetGivesEveryRegisterItsResetValue :
    let s := hostMoves .resetLine running
    nextAgent s = .host ∧ s.inbox = .resetLine :: [] ∧ ParamsLegal s.params ∧
    ParamsLegal { winMax := 65536, bitbufDepth := 1, sfifoDepth := 1, ofifoDepth := 65535 } := by decide +kernel

theorem witness_ConfigurationWritesAreMaskedAndLocked :
    running.state = .run ∧ (finishing .drain).state = .finish ∧ State.reset.state = .idle ∧
    { running with state := .done }.state = .done ∧ { running with state := .error }.state = .error := by
  decide +kernel

theorem witness_PlainWrites : ∃ t, exec (.wrIntEn 1) running = .next t := ⟨_, rfl⟩

/-- SFIFO_DEPTH is 2: one sample leaves room, two do not. -/
theorem witness_PushOffersASample :
    State.reset.state ≠ .run ∧
    ((waiting [0, 0]).state = .run ∧ (waiting [0, 0]).msg.sfifo.length = (waiting [0, 0]).params.sfifoDepth) ∧
    ((waiting [0]).state = .run ∧ (waiting [0]).msg.sfifo.length ≠ (waiting [0]).params.sfifoDepth) := by
  decide +kernel

theorem witness_ReadsHaveNoSideEffect :
    busRw (busWord false 0x1C 0) = false ∧ busWoff (busWord false 0x1C 0) ≠ 0x1D ∧
    busRw (busWord false 0x3F 0) = false ∧ busWoff (busWord false 0x3F 0) ≠ 0x1D := by decide +kernel

theorem witness_EveryStepAnswers : busRw (encode (.wrCtrl 0xFFFFFFFF)) = true := by decide +kernel

theorem witness_DecodingInvertsEncoding :
    wellFormed (.cmdReserved 5) = true ∧ wellFormed (.cmdReserved 0xFFFFFFFF) = true ∧ [1, 2, 3, 4].length < 5 := by
  decide +kernel

theorem witness_EngineTurnFollowsTheTable : nextAgent (engineMoves running) = .engine := by decide +kernel

theorem witness_ConsumeTakesOneSample :
    ((waiting [1]).state = .run ∨ (waiting [1]).state = .finish) ∧ (waiting [1]).msg.sfifo = 1 :: [] := by
  decide +kernel

theorem witness_ComparatorOnNaNsTiesAndUnitBias :
    ConfigRegs.reset.biasHi = 0x3FF00000 ∧ ConfigRegs.reset.biasLo = 0 ∧ isNaN 0x7FF0000000000000 = false ∧
    isNaN 0 = false ∧ (isNaN 0x7FF0000000000001 = true ∨ isNaN 0 = true) := by decide +kernel

theorem witness_NaNSampleMakesThePowerNaN :
    ∃ x ∈ [0, 0x7FF0000000000001], isNaN x = true := ⟨0x7FF0000000000001, by simp, by decide⟩

theorem witness_DrainDeliverAndComplete :
    (let s := finishing .drain
    s.state = .finish ∧ s.msg.sfifo = [] ∧ s.msg.fphase = .drain) ∧
    (let s := delivering [1] [2]
    s.state = .finish ∧ s.msg.sfifo = [] ∧ s.msg.fphase = .deliver ∧ s.msg.outseq = 1 :: [] ∧
      s.msg.ofifo.length < s.params.ofifoDepth) ∧
    (let s := delivering [] [1, 2]
    s.state = .finish ∧ s.msg.sfifo = [] ∧ s.msg.fphase = .deliver ∧ s.msg.outseq = []) := by decide +kernel

theorem witness_ComputeRunsPhaseTwo :
    (finishing .compute).state = .finish ∧ (finishing .compute).msg.fphase = .compute ∧
    (finishing .compute).msg.sfifo = [] ∧ fSign 0 = false := by decide +kernel

/-- FINISH at the output hold. -/
def heldState : State := delivering [1] [2, 3]

theorem witness_OutputHoldIsLiftedOnlyByTheHost :
    Held heldState ∧ 1 ≤ heldState.params.ofifoDepth ∧ (∃ t, exec .rdOutData heldState = .next t) ∧
    Held (engineMoves heldState) ∧ ∃ t, step (engineMoves heldState) = .next t :=
  ⟨⟨rfl, rfl, rfl, by decide, rfl⟩, by decide, ⟨_, rfl⟩, ⟨rfl, rfl, rfl, by decide, rfl⟩, ⟨_, rfl⟩⟩

theorem witness_FinishEndsInDoneOrHold :
    heldState.state = .finish ∧ heldState.msg.ofifo.length ≤ heldState.params.ofifoDepth := by decide +kernel

theorem witness_PushAndEndCommuteWithConsume :
    (waiting [0]).state = .run ∧ (waiting [0]).msg.sfifo ≠ [] ∧
    (waiting [0]).msg.sfifo.length < (waiting [0]).params.sfifoDepth := by decide +kernel

/-- The largest and the smallest finite values; sums, differences and products that are 0; an infinity with a zero
and with another number; infinities of one sign and of two; a NaN. -/
theorem witness_ArithmeticRoundsToNearestEven :
    (Claims.Finite 0x7FEFFFFFFFFFFFFF ∧ Claims.Finite 0x8000000000000001 ∧ Claims.Finite 0 ∧
      Claims.Finite 0x8000000000000000) ∧
    (fVal 0x8000000000000001 + fVal 1 = 0 ∧ fVal 1 - fVal 1 = 0 ∧ fVal 0 = 0 ∧ fVal 0x8000000000000000 = 0) ∧
    (isInf 0x7FF0000000000000 = true ∧ fVal 0x8000000000000001 ≠ 0) ∧
    (isInf 0xFFF0000000000000 = true ∧ fSign 0xFFF0000000000000 = fSign 0xFFF0000000000000 ∧
      fSign 0xFFF0000000000000 ≠ fSign 0x7FF0000000000000) ∧
    (isNaN 0 = true ∨ isNaN 0x7FF0000000000001 = true) := by
  unfold Claims.Finite; decide +kernel

theorem witness_ComparisonsOrderTheValues :
    (isNaN 0x7FEFFFFFFFFFFFFF = false ∧ isInf 0x7FEFFFFFFFFFFFFF = false) ∧
    (isNaN 0xFFF8000000000000 = true ∨ isNaN 0 = true) := by decide +kernel

/-- A tie: 2·5·1 - 2·2·2 = 2. -/
theorem witness_BinIndexIsNearestEven :
    1 ≤ 2 ∧ 2 * ((5 * 1 : Int) - (binIndex 5 1 2 * 2 : Int)).natAbs = 2 := by decide +kernel

theorem witness_CoefficientIsExactWhereItCanBe :
    0 % 1 = 0 ∧ 6 * (1 % 6) = 6 ∧ 6 * (5 % 6) = 5 * 6 ∧ 4 * (1 % 4) = 4 ∧ 4 * (3 % 4) = 3 * 4 ∧
    3 * (1 % 3) = 3 ∧ 3 * (2 % 3) = 2 * 3 ∧ 2 * (1 % 2) = 2 := by decide +kernel

theorem witness_CoefficientIsNearTheCosine : 1 ≤ 65536 ∧ 65536 ≤ 2 ^ 16 := by decide +kernel

/-- The shortest and the longest marker, with their last bits. -/
theorem witness_MarkersAndCandidatePositions :
    (1 ≤ 1 ∧ 1 ≤ 32 ∧ 0 < 1) ∧ (1 ≤ 32 ∧ 32 ≤ 32 ∧ 31 < 32) ∧ 2 + 8 ≤ 10 := by decide +kernel

/-- The marker at the last place where it fits. -/
theorem witness_HammingCountsTheDifferences : 1 + [true].length ≤ [false, true].length := by decide +kernel

theorem witness_PayloadLiesInTheStream :
    (sync (finishing .compute)).2 = some (0, 0) ∧
    (sync { finishing .compute with msg := { Message.clear with
      bitbuf := symbols (stream [0,0,1,0,0,1,0,0, 0,0,1,0,0,0,1,1]) } }).2 = some (8, 8) := by decide +kernel

/-- The stuffed bytes 41 5D (escape 7D, from 41 7D) would do as well: here the byte 'A', one bit after the tail. -/
theorem witness_MessageDecodesToItsBytes :
    let s := { finishing .compute with msg := { (finishing .compute).msg with
      bitbuf := symbols (stream [0,0,1,0,0,1,0,0, 0,1,0,0,0,0,0,1,0,1, 0,0,1,0,0,0,1,1, 1]) } }
    let order : BitOrder := if s.cfg.ctrl.getLsbD 0 then .msbFirst else .lsbFirst
    let head := markerBits s.cfg.headPat (s.cfg.syncCfg.extractLsb' 0 6).toNat
    let tail := markerBits s.cfg.tailPat (s.cfg.syncCfg.extractLsb' 8 6).toNat
    let frames := frameBytes order (stuff (s.cfg.escape.extractLsb' 0 8) [0x41])
    s.state = .finish ∧ s.msg.fphase = .compute ∧ s.msg.sfifo = [] ∧
    flt s.msg.peak (s.cfg.ampFloorHi ++ s.cfg.ampFloorLo) = false ∧
    s.msg.bits = head ++ frames ++ tail ++ [true] ∧ s.msg.bits.length < 2 ^ 32 ∧
    (s.cfg.tailWin = 0 ∨ frames.length < s.cfg.tailWin.toNat) ∧
    (∀ q < frames.length, hamming (frames ++ tail ++ [true]) tail q ≠ 0) ∧
    s.msg.ofifo.length + [0x41#8].length ≤ s.params.ofifoDepth := by decide +kernel

theorem witness_EveryStepKeepsTheInvariant :
    Inv (engineMoves (waiting [0])) ∧ ∃ t, step (engineMoves (waiting [0])) = .next t :=
  ⟨⟨by decide, by decide, by decide, by decide +kernel, by decide +kernel,
    (by decide : NoResultsYet (engineMoves (waiting [0])).msg), by decide, by decide,
    by simp [engineMoves, waiting, Message.clear]⟩, ⟨_, rfl⟩⟩

/-- START from reset changes the state. -/
theorem witness_StateChangesOnlyAsTheCommandsSay :
    let s := hostMoves (.bus (busWord true 6 1)) .reset
    step s = .next (stateAfter (step s) s) ∧ (stateAfter (step s) s).state ≠ s.state := ⟨rfl, by decide +kernel⟩

/-- A write of EVENTS clears a bit. -/
theorem witness_EventsAreSticky :
    let s := hostMoves (.bus (busWord true 8 1)) { State.reset with events := 1 }
    step s = .next (stateAfter (step s) s) ∧ s.events.getLsbD 0 = true ∧
    (stateAfter (step s) s).events.getLsbD 0 = false := ⟨rfl, by decide +kernel, by decide +kernel⟩

/-- A write of BAUD in RUN sets LOCK_ERR. -/
theorem witness_EventsComeOnlyFromTheirCauses_lock :
    let s := hostMoves (.bus (busWord true 0x0B 5)) running
    step s = .next (stateAfter (step s) s) ∧ s.events.getLsbD 12 = false ∧
    (stateAfter (step s) s).events.getLsbD 12 = true ∧ action s = .access (decodeBus (busWord true (cfgWoff .baud) 5)) :=
  ⟨rfl, by decide +kernel, by decide +kernel, by decide +kernel⟩

/-- A push in IDLE sets PUSH_ERR. -/
theorem witness_EventsComeOnlyFromTheirCauses :
    let s := hostMoves (.bus (busWord true 0x1B 0)) .reset
    step s = .next (stateAfter (step s) s) ∧ s.events.getLsbD 3 = false ∧
    (stateAfter (step s) s).events.getLsbD 3 = true := ⟨rfl, by decide +kernel, by decide +kernel⟩

/-- A locked configuration write in RUN; it is no reset and discards nothing. -/
theorem witness_ConfigurationIsFrozenWhileOpen :
    let s := hostMoves (.bus (busWord true 0x0B 5)) running
    step s = .next (stateAfter (step s) s) ∧ (s.state = .run ∨ s.state = .finish) ∧
    action s ≠ .access .cmdSoftReset ∧ action s ≠ .resetLine := ⟨rfl, by decide +kernel, by decide +kernel, by decide +kernel⟩

theorem witness_RegistersChangeOnlyByTheirWrites :
    let s := hostMoves (.bus (busWord true 0x0B 5)) running
    step s = .next (stateAfter (step s) s) ∧ action s = .access (.wrBaud 5) := ⟨rfl, by decide +kernel⟩

theorem witness_BitStreamOnlyGrows :
    let s := hostMoves (.bus (busWord true 0x0B 5)) running
    step s = .next (stateAfter (step s) s) ∧ (s.state = .run ∨ s.state = .finish) ∧ ¬ Discards s :=
  ⟨rfl, by decide +kernel, by unfold Discards; decide +kernel⟩

/-- COMPUTE itself, and a read with the sub-phase at DELIVER. -/
theorem witness_ResultsAreFinalAfterCompute :
    (let s := engineMoves (finishing .compute)
    step s = .next (stateAfter (step s) s) ∧ action s ≠ .access .cmdStart ∧ ¬ Discards s ∧
      action s = .engine .compute) ∧
    (let s := hostMoves (.bus 0) heldState
    step s = .next (stateAfter (step s) s) ∧ action s ≠ .access .cmdStart ∧ ¬ Discards s ∧
      action s ≠ .engine .compute ∧ s.msg.fphase = .deliver ∧ action s ≠ .access .cmdEnd) :=
  ⟨⟨rfl, by decide +kernel, by unfold Discards; decide +kernel, by decide +kernel⟩,
    rfl, by decide +kernel, by unfold Discards; decide +kernel, by decide +kernel, by decide +kernel,
    by decide +kernel⟩

/-- END while a sample waits. -/
theorem witness_EnabledEngineStepStaysEnabled :
    let s := hostMoves (.bus (busWord true 6 2)) (waiting [0])
    enabledStep s = some .consume ∧ step s = .next (stateAfter (step s) s) ∧ action s ≠ .engine .consume ∧
    ¬ Discards s := ⟨by decide +kernel, rfl, by decide +kernel, by unfold Discards; decide +kernel⟩

end Sys2Proof.Tests
end

/-! # Proofs: binary64 arithmetic and comparisons (00_scope.md R14)

The exponent and fraction fields of an encoding, read as one number (its *body*), order the magnitudes: the
magnitude `bodyMag` of a body is strictly increasing. Rounding picks one of the two neighbouring bodies
(`roundMag_spec`), so that no finite value lies between the two candidates, and all that is left is linear. -/

namespace Sys2Proof.Machine

/-! ## The body of an encoding -/

/-- The exponent and fraction fields read as one number. -/
def fBody (a : F64) : Nat := (a.extractLsb' 0 63).toNat

/-- The number `n` with a sign. -/
def signed (sign : Bool) (n : Nat) : Int := if sign then -(n : Int) else n

@[simp] theorem signed_true (n : Nat) : signed true n = -(n : Int) := rfl

@[simp] theorem signed_false (n : Nat) : signed false n = n := rfl

theorem fOrd_eq_signed (a : F64) : fOrd a = signed (fSign a) (fBody a) := rfl

theorem fVal_eq_signed (a : F64) : fVal a = signed (fSign a) (fMag a) := rfl

theorem signed_natAbs (sign : Bool) (n : Nat) : (signed sign n).natAbs = n := by
  cases sign <;> simp

theorem signed_neg_iff (sign : Bool) (n : Nat) : signed sign n < 0 ↔ sign = true ∧ 0 < n := by
  cases sign <;> simp

theorem fBody_eq (a : F64) : fBody a = a.toNat % 2 ^ 63 := by simp [fBody]

theorem fBody_lt (a : F64) : fBody a < 2 ^ 63 := BitVec.isLt _

theorem fExp_eq_fBody (a : F64) : fExp a = fBody a / 2 ^ 52 := by
  rw [fExp_eq, fBody_eq]; omega

theorem fFrac_eq_fBody (a : F64) : fFrac a = fBody a % 2 ^ 52 := by
  rw [fFrac_eq, fBody_eq]; omega

theorem fBody_fPack (sign : Bool) {body : Nat} (h : body < 2 ^ 63) : fBody (fPack sign body) = body := by
  rw [fBody_eq, fPack_toNat sign body h]
  cases sign <;> simp <;> omega

theorem isInf_iff (a : F64) : isInf a = true ↔ fBody a = infBody := by
  have := fBody_lt a
  simp only [isInf, fExp_eq_fBody, fFrac_eq_fBody, infBody, Bool.and_eq_true, beq_iff_eq]
  omega

theorem isNaN_iff (a : F64) : isNaN a = true ↔ infBody < fBody a := by
  have := fBody_lt a
  simp only [isNaN, fExp_eq_fBody, fFrac_eq_fBody, infBody, Bool.and_eq_true, beq_iff_eq, bne_iff_ne]
  omega

theorem finite_iff (a : F64) : Claims.Finite a ↔ fBody a < infBody := by
  rw [Claims.Finite, ← Bool.not_eq_true, ← Bool.not_eq_true, isNaN_iff, isInf_iff]
  omega

theorem isNaN_eq_false_of_isInf {a : F64} (h : isInf a = true) : isNaN a = false := by
  rw [← Bool.not_eq_true, isNaN_iff, (isInf_iff a).mp h]
  exact lt_irrefl _

theorem isInf_fPack_infBody (sign : Bool) : isInf (fPack sign infBody) = true :=
  (isInf_iff _).mpr (fBody_fPack sign (by decide))

theorem fSign_fPack_infBody (sign : Bool) : fSign (fPack sign infBody) = sign :=
  fSign_fPack sign infBody (by decide)

/-! ## The sign operations -/

theorem fneg_toNat (a : F64) : (fneg a).toNat = a.toNat ^^^ 2 ^ 63 := by
  simp [fneg, fPack]

theorem fBody_fneg (a : F64) : fBody (fneg a) = fBody a := by
  rw [fBody_eq, fBody_eq, fneg_toNat, Nat.xor_mod_two_pow]
  simp

@[simp] theorem fSign_fneg (a : F64) : fSign (fneg a) = !fSign a := by
  have h : (fPack true 0).getLsbD 63 = true := by decide
  rw [fSign, fneg, BitVec.getLsbD_xor, h, Bool.xor_true, fSign]

theorem isInf_fneg (a : F64) : isInf (fneg a) = isInf a :=
  Bool.eq_iff_iff.mpr (by rw [isInf_iff, isInf_iff, fBody_fneg])

theorem finite_fneg {a : F64} (h : Claims.Finite a) : Claims.Finite (fneg a) := by
  rwa [finite_iff, fBody_fneg, ← finite_iff]

theorem fVal_fneg (a : F64) : fVal (fneg a) = -fVal a := by
  have hm : fMag (fneg a) = fMag a := by
    simp only [fMag, fExp_eq_fBody, fFrac_eq_fBody, fBody_fneg]
  rw [fVal_eq_signed, fVal_eq_signed, hm, fSign_fneg]
  cases fSign a <;> simp

theorem getLsbD_fabs (a : F64) (i : Nat) : (fabs a).getLsbD i = (decide (i ≠ 63) && a.getLsbD i) := by
  have hmask : (fPack false (2 ^ 63 - 1)).getLsbD i = decide (i < 63) := by
    rw [BitVec.getLsbD, fPack_toNat false _ (by decide), if_neg Bool.false_ne_true, Nat.zero_add,
      Nat.testBit_two_pow_sub_one]
  rw [fabs, BitVec.getLsbD_and, hmask, Bool.and_comm]
  by_cases hi : i < 64
  · congr 2; apply propext; omega
  · rw [BitVec.getLsbD_of_ge a i (by omega), Bool.and_false, Bool.and_false]

/-! ## The magnitude of a body -/

/-- The magnitude of a body, in units of 2^-1074. -/
def bodyMag (body : Nat) : Nat :=
  if body / 2 ^ 52 = 0 then body % 2 ^ 52 else (2 ^ 52 + body % 2 ^ 52) * 2 ^ (body / 2 ^ 52 - 1)

theorem fMag_eq_bodyMag (a : F64) : fMag a = bodyMag (fBody a) := by
  rw [fMag, bodyMag, fExp_eq_fBody, fFrac_eq_fBody]

/-- Significand `q` at exponent `e`; a carry into the next exponent, `q = 2 ^ 53`, is allowed. -/
theorem bodyMag_add {e q : Nat} (hq : q ≤ 2 ^ 53) (hn : e = 0 ∨ 2 ^ 52 ≤ q) :
    bodyMag (e * 2 ^ 52 + q) = q * 2 ^ e := by
  unfold bodyMag
  by_cases hcarry : q = 2 ^ 53
  · have hd : (e * 2 ^ 52 + q) / 2 ^ 52 = e + 2 := by omega
    have hr : (e * 2 ^ 52 + q) % 2 ^ 52 = 0 := by omega
    rw [hd, hr, if_neg (by omega), hcarry, Nat.add_sub_assoc (by decide), pow_add]
    ring
  · by_cases hsub : q < 2 ^ 52
    · obtain rfl : e = 0 := by omega
      rw [if_pos (by omega)]
      omega
    · have hd : (e * 2 ^ 52 + q) / 2 ^ 52 = e + 1 := by omega
      have hr : 2 ^ 52 + (e * 2 ^ 52 + q) % 2 ^ 52 = q := by omega
      rw [hd, hr, if_neg (by omega), Nat.add_sub_cancel]

/-- Every body is a significand below 2^53 at some exponent, normal where the exponent is not the least. -/
theorem exists_significand (body : Nat) :
    ∃ e q, body = e * 2 ^ 52 + q ∧ q < 2 ^ 53 ∧ (e = 0 ∨ 2 ^ 52 ≤ q) :=
  ⟨body / 2 ^ 52 - 1, body - (body / 2 ^ 52 - 1) * 2 ^ 52, by omega, by omega, by omega⟩

theorem bodyMag_strictMono : StrictMono bodyMag := by
  refine strictMono_nat_of_lt_succ fun body => ?_
  obtain ⟨e, q, rfl, hq, hn⟩ := exists_significand body
  rw [Nat.add_assoc, bodyMag_add hq.le hn, bodyMag_add hq (by omega)]
  exact Nat.mul_lt_mul_of_pos_right q.lt_succ_self (Nat.two_pow_pos e)

@[simp] theorem bodyMag_zero : bodyMag 0 = 0 := rfl

theorem fMag_eq_zero_iff (a : F64) : fMag a = 0 ↔ fVal a = 0 := by
  rw [fVal_eq_signed]
  cases fSign a <;> simp

/-! ## The order of the finite values -/

/-- A strictly increasing map that fixes 0 keeps the order of signed numbers. -/
theorem signed_lt_signed_iff {f : Nat → Nat} (hf : StrictMono f) (h0 : f 0 = 0) (s t : Bool) (m n : Nat) :
    signed s (f m) < signed t (f n) ↔ signed s m < signed t n := by
  have hlt := hf.lt_iff_lt (a := m) (b := n)
  have hgt := hf.lt_iff_lt (a := n) (b := m)
  have hm := hf.lt_iff_lt (a := 0) (b := m)
  have hn := hf.lt_iff_lt (a := 0) (b := n)
  cases s <;> cases t <;> simp only [signed_true, signed_false] <;> omega

theorem fVal_lt_iff (a b : F64) : fVal a < fVal b ↔ fOrd a < fOrd b := by
  rw [fVal_eq_signed, fVal_eq_signed, fMag_eq_bodyMag, fMag_eq_bodyMag, fOrd_eq_signed, fOrd_eq_signed]
  exact signed_lt_signed_iff bodyMag_strictMono bodyMag_zero _ _ _ _

theorem flt_of_not_isNaN {a b : F64} (ha : isNaN a = false) (hb : isNaN b = false) :
    flt a b = decide (fOrd a < fOrd b) := by
  simp [flt, ha, hb]

theorem flt_of_isNaN {a b : F64} (h : isNaN a = true ∨ isNaN b = true) : flt a b = false := by
  obtain h | h := h <;> simp [flt, h]

theorem flt_of_finite {a b : F64} (ha : Claims.Finite a) (hb : Claims.Finite b) :
    flt a b = decide (fVal a < fVal b) := by
  rw [flt_of_not_isNaN ha.1 hb.1]
  exact decide_eq_decide.mpr (fVal_lt_iff a b).symm

theorem fOrd_bounds_of_finite {a : F64} (h : Claims.Finite a) : -(infBody : Int) < fOrd a ∧ fOrd a < infBody := by
  have hb := (finite_iff a).mp h
  rw [fOrd_eq_signed]
  cases fSign a <;> simp only [signed_true, signed_false] <;> omega

/-- Settles O36: the body, with the sign, orders finite values as their numbers are. -/
theorem comparisonsOrderTheValues : Obligations.ComparisonsOrderTheValues := by
  refine ⟨fun a b ha hb => ⟨flt_of_finite ha hb, flt_of_finite hb ha⟩,
    fun a b h => ⟨flt_of_isNaN h, flt_of_isNaN h.symm⟩, fun a ha => ?_, getLsbD_fabs⟩
  obtain ⟨hlow, hhigh⟩ := fOrd_bounds_of_finite ha
  have hpos : fOrd 0x7FF0000000000000 = infBody := by decide
  have hneg : fOrd 0xFFF0000000000000 = -(infBody : Int) := by decide
  constructor
  · rw [flt_of_not_isNaN ha.1 (by decide), hpos]
    exact decide_eq_true hhigh
  · rw [fgt, flt_of_not_isNaN (by decide) ha.1, hneg]
    exact decide_eq_true hlow

/-! ## Rounding -/

/-- `R` is the body nearest to `n` units of 2^-(1074+u), with no largest exponent: `n` lies at or above the body `B`
and below the next, and `R` is that of the two which is nearer, the even one on a tie. -/
def RoundsBetween (n u B R : Nat) : Prop :=
  bodyMag B * 2 ^ u ≤ n ∧ n < bodyMag (B + 1) * 2 ^ u ∧
    (R = B ∧ 2 * n ≤ bodyMag B * 2 ^ u + bodyMag (B + 1) * 2 ^ u ∨
      R = B + 1 ∧ bodyMag B * 2 ^ u + bodyMag (B + 1) * 2 ^ u ≤ 2 * n) ∧
    (2 * n = bodyMag B * 2 ^ u + bodyMag (B + 1) * 2 ^ u → R % 2 = 0)

/-- The shift of `roundMag` leaves a significand below 2^53, and a normal one where it is larger than `u`. -/
theorem significand_bounds (n u : Nat) :
    let sh := max (n.log2 + 1 - 53) u
    n / 2 ^ sh < 2 ^ 53 ∧ (sh - u = 0 ∨ 2 ^ 52 ≤ n / 2 ^ sh) := by
  intro sh
  constructor
  · rw [Nat.div_lt_iff_lt_mul (Nat.two_pow_pos sh), ← pow_add]
    exact Nat.lt_log2_self.trans_le (Nat.pow_le_pow_right (by decide) (by omega))
  · by_cases hu : sh = u
    · exact .inl (by omega)
    · have hlog : n.log2 = 52 + sh := by omega
      have hn : n ≠ 0 := by rintro rfl; rw [Nat.log2_zero] at hlog; omega
      rw [Nat.le_div_iff_mul_le (Nat.two_pow_pos sh), ← pow_add, ← hlog]
      exact .inr (Nat.log2_self_le hn)

theorem roundMag_spec (n u : Nat) : ∃ B R, roundMag n u = min R infBody ∧ RoundsBetween n u B R := by
  obtain ⟨hq, hn⟩ := significand_bounds n u
  unfold roundMag
  dsimp only at hq hn ⊢
  have hu : u ≤ max (n.log2 + 1 - 53) u := le_max_right _ _
  generalize max (n.log2 + 1 - 53) u = sh at hq hn hu ⊢
  have hpow : 2 ^ (sh - u) * 2 ^ u = 2 ^ sh := by rw [← pow_add, Nat.sub_add_cancel hu]
  have hlow : bodyMag ((sh - u) * 2 ^ 52 + n / 2 ^ sh) * 2 ^ u = 2 ^ sh * (n / 2 ^ sh) := by
    rw [bodyMag_add hq.le hn, Nat.mul_assoc, hpow, Nat.mul_comm]
  have hhigh : bodyMag ((sh - u) * 2 ^ 52 + n / 2 ^ sh + 1) * 2 ^ u = 2 ^ sh * (n / 2 ^ sh) + 2 ^ sh := by
    rw [Nat.add_assoc, bodyMag_add hq (by omega), Nat.mul_assoc, hpow, Nat.mul_comm, Nat.mul_succ]
  have hdiv := Nat.div_add_mod n (2 ^ sh)
  have hmod := Nat.mod_lt n (Nat.two_pow_pos sh)
  refine ⟨(sh - u) * 2 ^ 52 + n / 2 ^ sh, _, rfl, ?_⟩
  rw [RoundsBetween, hlow, hhigh]
  generalize 2 ^ sh * (n / 2 ^ sh) = Q at hdiv ⊢
  simp only [Bool.or_eq_true, Bool.and_eq_true, decide_eq_true_eq, beq_iff_eq]
  split <;> omega

/-- No finite value lies between two neighbouring bodies of the same sign. -/
theorem no_value_between (B : Nat) (sign : Bool) (y : Nat) :
    signed sign (bodyMag y) ≤ bodyMag B ∨ (bodyMag (B + 1) : Int) ≤ signed sign (bodyMag y) := by
  cases sign with
  | true => left; rw [signed_true]; omega
  | false =>
    rw [signed_false]
    obtain h | h := Nat.lt_or_ge B y
    · exact .inr (mod_cast bodyMag_strictMono.monotone h)
    · exact .inl (mod_cast bodyMag_strictMono.monotone h)

/-- The rounded body is as near as any value `c` that is not between the two candidates, and is even on a tie. -/
theorem RoundsBetween.nearest {n u B R : Nat} (h : RoundsBetween n u B R) {c : Int}
    (hc : c ≤ bodyMag B ∨ (bodyMag (B + 1) : Int) ≤ c) :
    ((bodyMag R : Int) * 2 ^ u - n).natAbs ≤ (c * 2 ^ u - n).natAbs ∧
    (((bodyMag R : Int) * 2 ^ u - n).natAbs = (c * 2 ^ u - n).natAbs → (bodyMag R : Int) ≠ c → R % 2 = 0) := by
  obtain ⟨hlow, hhigh, hR, htie⟩ := h
  have hpos : (0 : Int) < 2 ^ u := by positivity
  have hscaled : c * 2 ^ u ≤ bodyMag B * 2 ^ u ∨ (bodyMag (B + 1) * 2 ^ u : Int) ≤ c * 2 ^ u :=
    hc.imp (mul_le_mul_of_nonneg_right · hpos.le) (mul_le_mul_of_nonneg_right · hpos.le)
  have hne : (bodyMag R : Int) ≠ c → (bodyMag R : Int) * 2 ^ u ≠ c * 2 ^ u :=
    fun h => (mul_left_injective₀ hpos.ne').ne h
  zify at hlow hhigh hR htie
  generalize c * 2 ^ u = C at hscaled hne ⊢
  obtain ⟨hRB, hR⟩ | ⟨hRB, hR⟩ := hR
  · obtain rfl : R = B := by exact_mod_cast hRB
    omega
  · obtain rfl : R = B + 1 := by exact_mod_cast hRB
    omega

/-- The largest finite magnitude and the next power of two meet half a unit in the last place above the former. -/
theorem bodyMag_infBody_midpoint (u : Nat) :
    bodyMag (infBody - 1) * 2 ^ u + bodyMag infBody * 2 ^ u = 2 * ((2 ^ 54 - 1) * 2 ^ (2044 + u)) := by
  have hmax : infBody - 1 = 2045 * 2 ^ 52 + (2 ^ 53 - 1) := by decide
  have hinf : infBody = 2045 * 2 ^ 52 + 2 ^ 53 := by decide
  have hpow : (2 ^ 2045 : Nat) * 2 ^ u = 2 * 2 ^ (2044 + u) := by
    rw [← pow_add, ← pow_succ', Nat.add_right_comm]
  rw [hmax, hinf, bodyMag_add (by decide) (by decide), bodyMag_add (by decide) (by decide),
    Nat.mul_assoc, Nat.mul_assoc, hpow]
  generalize 2 ^ (2044 + u) = half
  omega

/-- The rounded body is finite exactly below the midpoint, where the tie goes up: the largest body is odd. -/
theorem RoundsBetween.lt_infBody_iff {n u B R : Nat} (h : RoundsBetween n u B R) :
    R < infBody ↔ n < (2 ^ 54 - 1) * 2 ^ (2044 + u) := by
  obtain ⟨hlow, hhigh, hR, htie⟩ := h
  have hmid := bodyMag_infBody_midpoint u
  generalize (2 ^ 54 - 1) * 2 ^ (2044 + u) = T at hmid ⊢
  have hmono {x y : Nat} (hxy : x ≤ y) : bodyMag x * 2 ^ u ≤ bodyMag y * 2 ^ u :=
    Nat.mul_le_mul_right _ (bodyMag_strictMono.monotone hxy)
  have hlast := hmono (Nat.sub_le infBody 1)
  have hodd : (infBody - 1) % 2 = 1 := by decide
  have hinf : infBody - 1 + 1 = infBody := by decide
  obtain hB | rfl | hB := Nat.lt_trichotomy B (infBody - 1)
  · have := hmono (x := B + 1) (y := infBody - 1) (by omega)
    omega
  · rw [hinf] at hhigh hR htie
    omega
  · have := hmono (x := infBody) (y := B) (by omega)
    omega

theorem fVal_fPack (sign : Bool) {body : Nat} (h : body < 2 ^ 63) :
    fVal (fPack sign body) = signed sign (bodyMag body) := by
  rw [fVal_eq_signed, fSign_fPack sign body h, fMag_eq_bodyMag, fBody_fPack sign h]

/-- A sign that both numbers carry does not count in their distance. -/
theorem natAbs_sub_of_signs (sign : Bool) (x : Int) (u n : Nat) :
    ((if sign then -x else x) * 2 ^ u - signed sign n).natAbs = (x * 2 ^ u - n).natAbs := by
  cases sign with
  | false => rfl
  | true => rw [if_pos rfl, signed_true, neg_mul, ← neg_sub', Int.natAbs_neg]

/-- The value of `c` is that of another number under the sign `sign`. -/
theorem fVal_eq_under_sign (sign : Bool) (c : F64) :
    let x := signed (sign != fSign c) (bodyMag (fBody c))
    fVal c = if sign then -x else x := by
  rw [fVal_eq_signed, fMag_eq_bodyMag]
  cases sign <;> cases fSign c <;> simp

theorem nearestEven_fPack {n u B R : Nat} (h : RoundsBetween n u B R) (hfin : R < infBody) (sign : Bool) :
    Claims.NearestEven (signed sign n) u (fPack sign R) := by
  have h63 : R < 2 ^ 63 := hfin.trans (by decide)
  refine ⟨(finite_iff _).mpr (by rwa [fBody_fPack sign h63]), fun c _ => ?_⟩
  obtain ⟨hle, htie⟩ := h.nearest (no_value_between B (sign != fSign c) (fBody c))
  rw [fVal_fPack sign h63, signed, fVal_eq_under_sign sign c, natAbs_sub_of_signs, natAbs_sub_of_signs]
  refine ⟨hle, fun heq hne => ?_⟩
  have heven := htie heq fun h => hne (by rw [h])
  rw [fFrac_eq_fBody, fBody_fPack sign h63]
  omega

/-- Rounding the magnitude rounds the signed value (00_scope.md R14). -/
theorem roundedTo_fPack {z : Int} {sign : Bool} {n u : Nat} (hz : z = signed sign n) :
    Claims.RoundedTo z u (fPack sign (roundMag n u)) := by
  obtain ⟨B, R, hround, hbetween⟩ := roundMag_spec n u
  rw [Claims.RoundedTo, hz, signed_natAbs, hround]
  split
  next hsmall =>
    have hfin : R < infBody := hbetween.lt_infBody_iff.mpr hsmall
    rw [min_eq_left hfin.le]
    exact nearestEven_fPack hbetween hfin sign
  next hlarge =>
    have hover : infBody ≤ R := Nat.le_of_not_lt (mt hbetween.lt_infBody_iff.mp hlarge)
    have hpos : 0 < n := Nat.lt_of_lt_of_le (by positivity) (Nat.le_of_not_lt hlarge)
    rw [min_eq_right hover, fSign_fPack_infBody]
    refine ⟨isInf_fPack_infBody sign, ?_⟩
    simp [signed_neg_iff, hpos]

/-! ## The operations, case by case -/

theorem roundMag_zero : roundMag 0 0 = 0 := by decide

theorem roundMag_lt (n u : Nat) : roundMag n u < 2 ^ 63 :=
  (min_le_right _ infBody).trans_lt (by decide)

theorem eq_signed_natAbs (z : Int) : z = signed (decide (z < 0)) z.natAbs := by
  by_cases h : z < 0
  · rw [decide_eq_true h, signed_true]; omega
  · rw [decide_eq_false h, signed_false]; omega

/-- The sum of finite values is packed from its rounded magnitude, also where it is zero. -/
theorem fadd_of_finite (nan : F64) {a b : F64} (ha : Claims.Finite a) (hb : Claims.Finite b) :
    ∃ sign, fadd nan a b = fPack sign (roundMag (fVal a + fVal b).natAbs 0) ∧
      fVal a + fVal b = signed sign (fVal a + fVal b).natAbs ∧
      (fVal a + fVal b = 0 → sign = (fSign a && fSign b)) := by
  simp only [fadd, ha.1, ha.2, hb.1, hb.2, Bool.or_false, Bool.false_eq_true, if_false]
  generalize fVal a + fVal b = z
  by_cases hz : z = 0
  · subst hz
    refine ⟨fSign a && fSign b, ?_, ?_, fun _ => rfl⟩
    · rw [if_pos rfl, Int.natAbs_zero, roundMag_zero]
    · cases fSign a && fSign b <;> rfl
  · exact ⟨decide (z < 0), if_neg hz, eq_signed_natAbs z, fun h => absurd h hz⟩

/-- The exact sum rounded once. `u` stays a variable, because Lean would evaluate the bound in `RoundedTo` at a
number. -/
theorem roundedTo_fadd (nan : F64) {a b : F64} {u : Nat} (ha : Claims.Finite a) (hb : Claims.Finite b)
    (hu : u = 0) : Claims.RoundedTo (fVal a + fVal b) u (fadd nan a b) := by
  obtain ⟨sign, heq, hz, -⟩ := fadd_of_finite nan ha hb
  rw [heq, ← hu]
  exact roundedTo_fPack hz

/-- A zero sum is negative where both terms are. -/
theorem fSign_fadd_of_sum_zero (nan : F64) {a b : F64} (ha : Claims.Finite a) (hb : Claims.Finite b)
    (h0 : fVal a + fVal b = 0) : fSign (fadd nan a b) = (fSign a && fSign b) := by
  obtain ⟨sign, heq, -, hsign⟩ := fadd_of_finite nan ha hb
  rw [heq, fSign_fPack _ _ (roundMag_lt _ _), hsign h0]

theorem fmul_of_finite (nan : F64) {a b : F64} (ha : Claims.Finite a) (hb : Claims.Finite b) :
    fmul nan a b = fPack (fSign a != fSign b) (roundMag (fMag a * fMag b) 1074) := by
  simp only [fmul, ha.1, ha.2, hb.1, hb.2, Bool.or_false, Bool.false_eq_true, if_false]

/-- The exact product rounded once; `u` is a variable as in `roundedTo_fadd`. -/
theorem roundedTo_fmul (nan : F64) {a b : F64} {u : Nat} (ha : Claims.Finite a) (hb : Claims.Finite b)
    (hu : u = 1074) : Claims.RoundedTo (fVal a * fVal b) u (fmul nan a b) := by
  have hz : fVal a * fVal b = signed (fSign a != fSign b) (fMag a * fMag b) := by
    rw [fVal_eq_signed, fVal_eq_signed]
    cases fSign a <;> cases fSign b <;> simp
  rw [fmul_of_finite nan ha hb, ← hu]
  exact roundedTo_fPack hz

/-- An infinity absorbs every term but the opposite infinity. -/
theorem fadd_of_isInf_left (nan : F64) {a b : F64} (ha : isInf a = true) (hb : isNaN b = false)
    (hab : isInf b = true → fSign a = fSign b) : fadd nan a b = a := by
  have hne : ¬ (isInf b && fSign a != fSign b) = true := by simpa using hab
  simp only [fadd, isNaN_eq_false_of_isInf ha, hb, ha, Bool.or_false, Bool.false_eq_true, if_false, if_true,
    if_neg hne]

theorem fadd_of_isInf_right (nan : F64) {a b : F64} (ha : Claims.Finite a) (hb : isInf b = true) :
    fadd nan a b = b := by
  simp [fadd, ha.1, ha.2, isNaN_eq_false_of_isInf hb, hb]

theorem isNaN_fadd_of_opposite_infinities (nan : F64) {a b : F64} (ha : isInf a = true) (hb : isInf b = true)
    (hab : fSign a ≠ fSign b) : isNaN (fadd nan a b) = true := by
  simp [fadd, isNaN_eq_false_of_isInf, ha, hb, hab]

/-- An infinity times an infinity or a finite value that is no zero. -/
theorem fmul_of_isInf_left (nan : F64) {a b : F64} (ha : isInf a = true) (hb : isNaN b = false)
    (hb0 : isInf b = true ∨ fVal b ≠ 0) : fmul nan a b = fPack (fSign a != fSign b) infBody := by
  have hne : ¬ (!isInf b && fMag b == 0) = true := by
    simpa [fMag_eq_zero_iff, or_iff_not_imp_left] using hb0
  simp only [fmul, isNaN_eq_false_of_isInf ha, hb, ha, Bool.or_false, Bool.false_eq_true, if_false, if_true,
    if_neg hne]

theorem fmul_of_isInf_right (nan : F64) {a b : F64} (ha : Claims.Finite a) (hb : isInf b = true)
    (ha0 : fVal a ≠ 0) : fmul nan a b = fPack (fSign a != fSign b) infBody := by
  have hm : fMag a ≠ 0 := mt (fMag_eq_zero_iff a).mp ha0
  simp [fmul, ha.1, ha.2, isNaN_eq_false_of_isInf hb, hb, hm]

/-- An infinity times zero is an invalid operation. -/
theorem isNaN_fmul_of_isInf_zero (nan : F64) {a b : F64} (ha : isInf a = true) (hb : Claims.Finite b)
    (hb0 : fVal b = 0) : isNaN (fmul nan a b) = true ∧ isNaN (fmul nan b a) = true := by
  have hm : fMag b = 0 := (fMag_eq_zero_iff b).mpr hb0
  constructor <;> simp [fmul, isNaN_eq_false_of_isInf ha, ha, hb.1, hb.2, hm]

/-! ## The statement on the arithmetic -/

theorem arithmetic_of_finite (nan : F64) {a b : F64} (ha : Claims.Finite a) (hb : Claims.Finite b) :
    Claims.RoundedTo (fVal a + fVal b) 0 (fadd nan a b) ∧
    Claims.RoundedTo (fVal a - fVal b) 0 (fsub nan a b) ∧
    Claims.RoundedTo (fVal a * fVal b) 1074 (fmul nan a b) ∧
    (fVal a + fVal b = 0 → fSign (fadd nan a b) = (fSign a && fSign b)) ∧
    (fVal a - fVal b = 0 → fSign (fsub nan a b) = (fSign a && !fSign b)) ∧
    fSign (fmul nan a b) = (fSign a != fSign b) := by
  have hb' := finite_fneg hb
  rw [sub_eq_add_neg, ← fVal_fneg, ← fSign_fneg, fsub]
  refine ⟨?_, ?_, ?_, fSign_fadd_of_sum_zero nan ha hb, fSign_fadd_of_sum_zero nan ha hb', ?_⟩
  · simp only [roundedTo_fadd, ha, hb]
  · simp only [roundedTo_fadd, ha, hb']
  · simp only [roundedTo_fmul, ha, hb]
  · rw [fmul_of_finite nan ha hb, fSign_fPack _ _ (roundMag_lt _ _)]

theorem arithmetic_of_infinity_and_finite (nan : F64) {a b : F64} (ha : isInf a = true) (hb : Claims.Finite b) :
    fadd nan a b = a ∧ fadd nan b a = a ∧ fsub nan a b = a ∧
    (isInf (fsub nan b a) = true ∧ fSign (fsub nan b a) = !fSign a) ∧
    (fVal b = 0 → isNaN (fmul nan a b) = true ∧ isNaN (fmul nan b a) = true) ∧
    (fVal b ≠ 0 → isInf (fmul nan a b) = true ∧ fSign (fmul nan a b) = (fSign a != fSign b) ∧
      fmul nan b a = fmul nan a b) := by
  have hadd {c : F64} (hc : Claims.Finite c) : fadd nan a c = a :=
    fadd_of_isInf_left nan ha hc.1 fun h => absurd h (by simp [hc.2])
  have hsub : fsub nan b a = fneg a := fadd_of_isInf_right nan hb (by rwa [isInf_fneg])
  refine ⟨hadd hb, fadd_of_isInf_right nan hb ha, hadd (finite_fneg hb), ?_,
    isNaN_fmul_of_isInf_zero nan ha hb, fun hb0 => ?_⟩
  · rw [hsub, isInf_fneg, fSign_fneg]
    exact ⟨ha, rfl⟩
  · rw [fmul_of_isInf_left nan ha hb.1 (.inr hb0), fmul_of_isInf_right nan hb ha hb0, bne_comm]
    exact ⟨isInf_fPack_infBody _, fSign_fPack_infBody _, rfl⟩

theorem arithmetic_of_infinities (nan : F64) {a b : F64} (ha : isInf a = true) (hb : isInf b = true) :
    (fSign a = fSign b → fadd nan a b = a ∧ isNaN (fsub nan a b) = true) ∧
    (fSign a ≠ fSign b → isNaN (fadd nan a b) = true ∧ fsub nan a b = a) ∧
    isInf (fmul nan a b) = true ∧ fSign (fmul nan a b) = (fSign a != fSign b) := by
  have hbn : isInf (fneg b) = true := by rwa [isInf_fneg]
  refine ⟨fun hs => ⟨?_, ?_⟩, fun hs => ⟨?_, ?_⟩, ?_⟩
  · exact fadd_of_isInf_left nan ha (isNaN_eq_false_of_isInf hb) fun _ => hs
  · exact isNaN_fadd_of_opposite_infinities nan ha hbn (by simp [hs])
  · exact isNaN_fadd_of_opposite_infinities nan ha hb hs
  · exact fadd_of_isInf_left nan ha (isNaN_eq_false_of_isInf hbn) fun _ => by rwa [fSign_fneg, Bool.eq_not]
  · rw [fmul_of_isInf_left nan ha (isNaN_eq_false_of_isInf hb) (.inl hb)]
    exact ⟨isInf_fPack_infBody _, fSign_fPack_infBody _⟩

/-- Settles O35: `roundMag` rounds between neighbouring bodies, and the special cases one by one. -/
theorem arithmeticRoundsToNearestEven : Obligations.ArithmeticRoundsToNearestEven :=
  ⟨fun nan _ _ => arithmetic_of_finite nan, fun nan _ _ => arithmetic_of_infinity_and_finite nan,
    fun nan _ _ => arithmetic_of_infinities nan, fun _ _ _ h => ⟨isNaN_fadd h, isNaN_fsub h, isNaN_fmul h⟩⟩

end Sys2Proof.Machine

/-! # Proofs: what a step performs, the bit window, the frames of the host's registers

A step is the performance of its `action` between two states that differ from the given ones outside the block only
(`step_performs`). So a property of the block is proved once for each performance. -/

namespace Sys2Proof.Machine

/-! ## A step performs its action -/

/-- The block and its parameters are the same; what is outside the block (log 1, log 2, log 10) may differ. -/
structure SameBlock (s t : State) : Prop where
  params : t.params = s.params
  state : t.state = s.state
  cfg : t.cfg = s.cfg
  events : t.events = s.events
  intEn : t.intEn = s.intEn
  bitbufAddr : t.bitbufAddr = s.bitbufAddr
  loLatch : t.loLatch = s.loLatch
  msg : t.msg = s.msg

theorem SameBlock.refl (s : State) : SameBlock s s := ⟨rfl, rfl, rfl, rfl, rfl, rfl, rfl, rfl⟩

theorem sameBlock_takeTurn (s : State) : SameBlock s s.takeTurn := ⟨rfl, rfl, rfl, rfl, rfl, rfl, rfl, rfl⟩

theorem sameBlock_takeInput (s : State) (rest : List Input) : SameBlock s { s.takeTurn with inbox := rest } :=
  ⟨rfl, rfl, rfl, rfl, rfl, rfl, rfl, rfl⟩

theorem sameBlock_respond (s : State) (r : Resp) (v : Word) : SameBlock s (s.respond r v) :=
  ⟨rfl, rfl, rfl, rfl, rfl, rfl, rfl, rfl⟩

theorem sameBlock_pollAgain (woff : BitVec 6) (mask val : Word) (s : State) :
    SameBlock s (pollAgain woff mask val s) := by
  unfold pollAgain
  split
  · exact .refl s
  · exact ⟨rfl, rfl, rfl, rfl, rfl, rfl, rfl, rfl⟩

/-- What performing an action makes of the state. -/
inductive Performs (s : State) : Action → State → Prop where
  | engine (e : EngineStep) : enabledStep s = some e → Performs s (.engine e) (engineStep s)
  | access (i : Instr) (t : State) : exec i s = .next t → Performs s (.access i) t
  | resetLine : Performs s .resetLine (resetBlock s)
  | nothing : Performs s .nothing s

theorem action_engineTurn {s : State} (h : nextAgent s = .engine) :
    action s = (enabledStep s).elim .nothing .engine := by
  rw [action, h]
  cases enabledStep s <;> rfl

theorem performs_engineTurn {s : State} (h : nextAgent s = .engine) :
    Performs s.takeTurn (action s) (engineStep s.takeTurn) := by
  have hen : enabledStep s.takeTurn = enabledStep s := rfl
  rw [action_engineTurn h]
  cases he : enabledStep s with
  | none =>
    have hidle : engineStep s.takeTurn = s.takeTurn := by rw [engineStep, hen, he]
    rw [hidle]
    exact .nothing
  | some e => exact .engine e (hen.trans he)

/-- A step performs its action, between states that differ from `s` and `t` outside the block only. -/
theorem step_performs {s t : State} (h : step s = .next t) :
    ∃ s' t', SameBlock s s' ∧ Performs s' (action s) t' ∧ SameBlock t' t := by
  cases step_turnEffect h with
  | engine ha => exact ⟨_, _, sameBlock_takeTurn s, performs_engineTurn ha, .refl _⟩
  | idle ha hi =>
    rw [action, ha, hi]
    exact ⟨_, _, sameBlock_takeTurn s, .nothing, .refl _⟩
  | bus w rest _ ha hi he =>
    rw [action, ha, hi]
    exact ⟨_, _, sameBlock_takeInput s rest, .access _ _ he, .refl t⟩
  | poll woff mask val rest u ha hi he =>
    rw [action, ha, hi]
    exact ⟨_, _, sameBlock_takeInput s rest, .access _ _ he, sameBlock_pollAgain woff mask val u⟩
  | platform a rest _ ha hi he =>
    rw [platformStep] at he
    rw [action, ha, hi]
    dsimp only
    cases hadapt : adapt Config.base a with
    | forward w =>
      rw [hadapt] at he
      exact ⟨_, _, sameBlock_takeInput s rest, .access _ _ he, .refl t⟩
    | busError off =>
      rw [hadapt] at he
      cases he
      exact ⟨_, _, sameBlock_takeInput s rest, .nothing, sameBlock_respond _ _ _⟩
    | elsewhere =>
      rw [hadapt] at he
      cases he
      exact ⟨_, _, sameBlock_takeInput s rest, .nothing, .refl _⟩
  | resetLine rest ha hi =>
    rw [action, ha, hi]
    exact ⟨_, _, sameBlock_takeInput s rest, .resetLine, .refl _⟩

/-! ## The window of the bit buffer (10_state.md R57) -/

/-- Bit `j` of a word of a plane, 0 past the plane's end. -/
theorem getLsbD_bitWord (plane : List Bool) (addr : Word) {j : Nat} (hj : j < 32) :
    (bitWord plane addr).getLsbD j = plane[32 * addr.toNat + j]?.getD false := by
  have hwindow : ((plane.drop (32 * addr.toNat)).take 32)[j]? = plane[32 * addr.toNat + j]? := by
    rw [List.getElem?_take_of_lt hj, List.getElem?_drop]
  rw [bitWord, BitVec.getLsbD_ofNat, decide_eq_true hj, Bool.true_and, bitsValue_testBit,
    List.getD_eq_getElem?_getD, hwindow]

/-- Settles O5: the bits of a word of a plane, for the two planes of the stream. -/
theorem bitbufWindowReadsTheStream : Obligations.BitbufWindowReadsTheStream := by
  intro s
  refine ⟨bitWord s.msg.bits s.bitbufAddr, bitWord s.msg.unks s.bitbufAddr, rfl, rfl, fun j hj => ?_⟩
  rw [getLsbD_bitWord _ _ hj, getLsbD_bitWord _ _ hj, Message.bits, Message.unks, List.getElem?_map,
    List.getElem?_map]
  exact ⟨rfl, rfl⟩

/-! ## The engine leaves all but the message state, EVENTS and STATE -/

theorem closeWindow_onlyMessage (s : State) : OnlyMessage s (closeWindow s) := by
  unfold closeWindow
  split
  · exact (onlyMessage_msg s _).trans (windowComplete_effect _ _).only
  · exact .refl s

theorem consumeStep_onlyMessage (s : State) : OnlyMessage s (consumeStep s) := by
  unfold consumeStep
  split
  · exact .refl s
  · exact (onlyMessage_msg s _).trans (closeWindow_onlyMessage _)

theorem drainStep_onlyMessage (s : State) : OnlyMessage s (drainStep s) := by
  unfold drainStep
  dsimp only
  split
  · exact (onlyMessage_msg s _).trans (windowComplete_effect _ _).only
  · exact onlyMessage_msg s _

theorem computeStep_onlyMessage (s : State) : OnlyMessage s (computeStep s) :=
  (phase2_effect s).1.trans (onlyMessage_msg _ _)

theorem deliverStep_onlyMessage (s : State) : OnlyMessage s (deliverStep s) := by
  unfold deliverStep
  split
  · exact .refl s
  · exact onlyMessage_msg s _

/-- COMPLETE alone changes more than the message state and EVENTS. -/
theorem engineStep_onlyMessage_or_complete (s : State) :
    OnlyMessage s (engineStep s) ∨ engineStep s = completeStep s := by
  rcases engineStep_cases s with ⟨-, e⟩ | ⟨-, e⟩ | ⟨-, e⟩ | ⟨-, e⟩ | ⟨-, e⟩ | ⟨-, e⟩ <;> rw [e]
  · exact .inl (consumeStep_onlyMessage s)
  · exact .inl (drainStep_onlyMessage s)
  · exact .inl (computeStep_onlyMessage s)
  · exact .inl (deliverStep_onlyMessage s)
  · exact .inr rfl
  · exact .inl (.refl s)

/-! ## The frames of LO_LATCH, INT_EN, BITBUF_ADDR and the parameters -/

/-- LO_LATCH, INT_EN, BITBUF_ADDR and the parameters are the same. -/
structure KeepsHostRegs (s t : State) : Prop where
  params : t.params = s.params
  loLatch : t.loLatch = s.loLatch
  intEn : t.intEn = s.intEn
  bitbufAddr : t.bitbufAddr = s.bitbufAddr

theorem OnlyMessage.keepsHostRegs {s t : State} (h : OnlyMessage s t) : KeepsHostRegs s t :=
  ⟨h.params, h.loLatch, h.intEn, h.bitbufAddr⟩

theorem keepsHostRegs_engineStep (s : State) : KeepsHostRegs s (engineStep s) := by
  obtain h | h := engineStep_onlyMessage_or_complete s
  · exact h.keepsHostRegs
  · rw [h]
    exact ⟨rfl, rfl, rfl, rfl⟩

theorem keepsHostRegs_startMessage (s : State) : KeepsHostRegs s (startMessage s) := by
  rcases startMessage_spec s with ⟨-, e⟩ | ⟨-, -, e⟩ | ⟨-, -, e⟩ <;> rw [e] <;> exact ⟨rfl, rfl, rfl, rfl⟩

theorem keepsHostRegs_endMessage (s : State) : KeepsHostRegs s (endMessage s) := by
  rcases endMessage_spec s with ⟨-, e⟩ | ⟨-, e⟩ <;> rw [e] <;> exact ⟨rfl, rfl, rfl, rfl⟩

theorem keepsHostRegs_writeConfig (r : CfgReg) (d : Word) (s : State) : KeepsHostRegs s (writeConfig r d s) := by
  rcases writeConfig_spec r d s with ⟨-, e⟩ | ⟨-, e⟩ <;> rw [e] <;> exact ⟨rfl, rfl, rfl, rfl⟩

theorem keepsHostRegs_offerSample (x : F64) (s : State) : KeepsHostRegs s (offerSample x s) := by
  rcases offerSample_spec x s with ⟨-, e⟩ | ⟨-, -, e⟩ | ⟨-, -, _, -, e⟩ <;> rw [e] <;> exact ⟨rfl, rfl, rfl, rfl⟩

/-- The instruction answers and leaves the host's registers and the parameters. -/
def ExecKeepsHostRegs (i : Instr) (s : State) : Prop := ∃ t, exec i s = .next t ∧ KeepsHostRegs s t

theorem KeepsHostRegs.respond {s t : State} (h : KeepsHostRegs s t) (r : Resp) (v : Word) :
    KeepsHostRegs s (t.respond r v) := ⟨h.params, h.loLatch, h.intEn, h.bitbufAddr⟩

theorem KeepsHostRegs.refl (s : State) : KeepsHostRegs s s := ⟨rfl, rfl, rfl, rfl⟩

/-- Four instructions change a host register; what each of them does, and that the others keep them all. -/
theorem exec_hostRegs (i : Instr) (s : State) :
    (i = .cmdSoftReset ∧ exec i s = acknowledge (resetBlock s)) ∨
    (∃ d, i = .wrSampleLo d ∧ exec i s = acknowledge { s with loLatch := d }) ∨
    (∃ d, i = .wrIntEn d ∧ exec i s = acknowledge { s with intEn := d &&& intEnMask }) ∨
    (∃ d, i = .wrBitbufAddr d ∧ exec i s = acknowledge { s with bitbufAddr := d }) ∨
    ExecKeepsHostRegs i s := by
  cases i
  case cmdSoftReset => exact .inl ⟨rfl, rfl⟩
  case wrSampleLo d => exact .inr (.inl ⟨d, rfl, rfl⟩)
  case wrIntEn d => exact .inr (.inr (.inl ⟨d, rfl, rfl⟩))
  case wrBitbufAddr d => exact .inr (.inr (.inr (.inl ⟨d, rfl, rfl⟩)))
  all_goals refine .inr (.inr (.inr (.inr ⟨_, rfl, KeepsHostRegs.respond ?_ _ _⟩)))
  case rdOutData => exact ⟨rfl, rfl, rfl, rfl⟩
  case cmdStart => exact keepsHostRegs_startMessage s
  case cmdEnd => exact keepsHostRegs_endMessage s
  case cmdAbort => exact ⟨rfl, rfl, rfl, rfl⟩
  case cmdReserved => exact ⟨rfl, rfl, rfl, rfl⟩
  case wrSampleHi => exact keepsHostRegs_offerSample _ s
  case wrEvents => exact ⟨rfl, rfl, rfl, rfl⟩
  all_goals first
    | exact KeepsHostRegs.refl s
    | exact keepsHostRegs_writeConfig _ _ s

/-- A host register that the action `a` does not write stands, and so do the parameters. -/
structure HostRegFrame (a : Action) (s t : State) : Prop where
  params : t.params = s.params
  loLatch : (∀ d, a ≠ .access (.wrSampleLo d)) → t.loLatch = s.loLatch
  intEn : (∀ d, a ≠ .access (.wrIntEn d)) → t.intEn = s.intEn
  bitbufAddr : (∀ d, a ≠ .access (.wrBitbufAddr d)) → t.bitbufAddr = s.bitbufAddr

theorem KeepsHostRegs.frame {s t : State} (h : KeepsHostRegs s t) (a : Action) : HostRegFrame a s t :=
  ⟨h.params, fun _ => h.loLatch, fun _ => h.intEn, fun _ => h.bitbufAddr⟩

theorem Performs.hostRegFrame {s t : State} {a : Action} (h : Performs s a t) :
    t.params = s.params ∧ (a ≠ .access .cmdSoftReset → a ≠ .resetLine → HostRegFrame a s t) := by
  cases h with
  | engine e _ =>
    have hk := keepsHostRegs_engineStep s
    exact ⟨hk.params, fun _ _ => hk.frame _⟩
  | resetLine => exact ⟨rfl, fun _ h => absurd rfl h⟩
  | nothing => exact ⟨rfl, fun _ _ => (KeepsHostRegs.refl s).frame _⟩
  | access i _ he =>
    rcases exec_hostRegs i s with ⟨rfl, e⟩ | ⟨d, rfl, e⟩ | ⟨d, rfl, e⟩ | ⟨d, rfl, e⟩ | ⟨u, e, hk⟩ <;>
      cases e.symm.trans he
    · exact ⟨rfl, fun h _ => absurd rfl h⟩
    · exact ⟨rfl, fun _ _ => ⟨rfl, fun h => absurd rfl (h d), fun _ => rfl, fun _ => rfl⟩⟩
    · exact ⟨rfl, fun _ _ => ⟨rfl, fun _ => rfl, fun h => absurd rfl (h d), fun _ => rfl⟩⟩
    · exact ⟨rfl, fun _ _ => ⟨rfl, fun _ => rfl, fun _ => rfl, fun h => absurd rfl (h d)⟩⟩
    · exact ⟨hk.params, fun _ _ => hk.frame _⟩

/-- Settles O57: the frame of each performance, carried over the states outside the block. -/
theorem registersChangeOnlyByTheirWrites : Obligations.RegistersChangeOnlyByTheirWrites := by
  intro s t h
  obtain ⟨s', t', hs, hp, ht⟩ := step_performs h
  obtain ⟨hparams, hframe⟩ := hp.hostRegFrame
  refine ⟨ht.params.trans (hparams.trans hs.params), fun hsoft hline => ?_⟩
  obtain ⟨-, hlo, hint, haddr⟩ := hframe hsoft hline
  exact ⟨fun hw => ht.loLatch.trans ((hlo hw).trans hs.loLatch),
    fun hw => ht.intEn.trans ((hint hw).trans hs.intEn),
    fun hw => ht.bitbufAddr.trans ((haddr hw).trans hs.bitbufAddr)⟩

end Sys2Proof.Machine

/-! # Proofs: every step keeps the invariant of the reachable states

Every host effect and every engine step keeps `Inv`, and `step_performs` joins them. Three facts carry the engine's
half: a demodulated window changes the symbol side of the message alone (`WindowEffect`), events are raised within
the 13 event bits (`reservedEvents`), and a located marker ends within the stream (`locate_le`). -/

namespace Sys2Proof.Machine

/-! ## The invariant speaks of the block alone -/

theorem SameBlock.inv {s t : State} (h : SameBlock s t) (hi : Inv s) : Inv t := by
  obtain ⟨hparams, hstate, hcfg, hevents, hintEn, -, -, hmsg⟩ := h
  cases s
  cases t
  dsimp only at hparams hstate hcfg hevents hintEn hmsg
  subst hparams hstate hcfg hevents hintEn hmsg
  exact ⟨hi.params, hi.stores, hi.reserved, hi.config, hi.window, hi.lifecycle, hi.peak, hi.payload, hi.entries⟩

/-! ## Reserved bits -/

/-- EVENTS bits 31:13 (10_state.md R35). -/
def reservedEvents (s : State) : Word := s.events &&& ~~~intEnMask

theorem eventBit_and_not_intEnMask (e : Event) : eventBit e &&& ~~~intEnMask = 0 := by
  cases e <;> rfl

theorem and_mask_and_not_mask (d m : Word) : d &&& m &&& ~~~m = 0 := by
  rw [BitVec.and_assoc, BitVec.and_not_self]
  exact BitVec.and_zero

@[simp] theorem reservedEvents_raise (s : State) (e : Event) : reservedEvents (s.raise e) = reservedEvents s := by
  rw [reservedEvents, raise_events, BitVec.and_or_distrib_right, eventBit_and_not_intEnMask]
  exact BitVec.or_zero

/-- The reserved bits of the registers that have no mask are none. -/
theorem reservedBitsZero_iff (s : State) : ReservedBitsZero s ↔
    (∀ r, s.cfg.get r &&& ~~~cfgMask r = 0) ∧ s.intEn &&& ~~~intEnMask = 0 ∧ reservedEvents s = 0 := by
  constructor
  · rintro ⟨hctrl, hsync, hescape, hintEn, hevents⟩
    refine ⟨fun r => ?_, hintEn, hevents⟩
    cases r
    case ctrl => exact hctrl
    case syncCfg => exact hsync
    case escape => exact hescape
    all_goals exact BitVec.and_zero
  · rintro ⟨hcfg, hintEn, hevents⟩
    exact ⟨hcfg .ctrl, hcfg .syncCfg, hcfg .escape, hintEn, hevents⟩

theorem reservedBitsZero_set {c : ConfigRegs} (h : ∀ r, c.get r &&& ~~~cfgMask r = 0) (r : CfgReg) (d : Word) :
    ∀ r', (c.set r (d &&& cfgMask r)).get r' &&& ~~~cfgMask r' = 0 := by
  intro r'
  rw [get_set]
  split
  · next hr =>
    rw [hr]
    exact and_mask_and_not_mask d _
  · exact h r'

/-! ## The life of a message, by engine state -/

theorem lifecycle_of_clear {s : State} (h : s.msg = Message.clear) : Lifecycle s := by
  cases hs : s.state <;> simp [Lifecycle, hs, h, Message.clear]

theorem lifecycle_done {s : State} (h : s.state = .done) :
    Lifecycle s ↔ s.msg.sfifo = [] ∧ s.msg.winbuf = [] ∧ s.msg.outseq = [] := by
  simp only [Lifecycle, h]

theorem lifecycle_idle_or_error {s : State} (h : s.state = .idle ∨ s.state = .error) :
    Lifecycle s ↔ s.msg = Message.clear := by
  obtain h | h := h <;> simp only [Lifecycle, h]

/-- In an open message: no result before DELIVER, and the input side empty after DRAIN. -/
theorem lifecycle_open {s : State} (h : s.isOpen = true) : Lifecycle s ↔
    (s.state = .run ∨ s.msg.fphase ≠ .deliver → NoResultsYet s.msg) ∧
    (s.state = .finish → s.msg.fphase ≠ .drain → s.msg.sfifo = [] ∧ s.msg.winbuf = []) := by
  obtain h | h := (isOpen_iff s).mp h
  · simp [Lifecycle, h]
  · cases hp : s.msg.fphase <;> simp [Lifecycle, h, hp]

theorem lifecycle_of_open {s : State} (h : s.isOpen = true)
    (hresults : s.state = .run ∨ s.msg.fphase ≠ .deliver → NoResultsYet s.msg)
    (hinput : s.state = .finish → s.msg.fphase ≠ .drain → s.msg.sfifo = [] ∧ s.msg.winbuf = []) : Lifecycle s :=
  (lifecycle_open h).mpr ⟨hresults, hinput⟩

theorem not_isOpen {s : State} (h : s.isOpen = false) : s.state = .done ∨ s.state = .idle ∨ s.state = .error := by
  cases hs : s.state <;> simp [State.isOpen, hs] at h ⊢

theorem noResultsYet_iff (m : Message) :
    NoResultsYet m ↔ m.outseq = [] ∧ m.ofifo = [] ∧ ∀ v ∈ m.results, v = 0 := by
  simp [NoResultsYet, Message.results]

theorem payload_eq_of_results {m n : Message} (h : n.results = m.results) :
    n.payloadStart = m.payloadStart ∧ n.payloadEnd = m.payloadEnd := by
  simp only [Message.results, List.cons.injEq] at h
  obtain ⟨-, -, -, hs, he, -⟩ := h
  exact ⟨hs, he⟩

theorem windowLen_pos {winMax : Nat} {c : ConfigRegs} (h : validConfig winMax c = true) : 0 < c.windowLen := by
  simp only [validConfig, Bool.and_eq_true, decide_eq_true_eq] at h
  obtain ⟨⟨⟨⟨-, hpos⟩, -⟩, -⟩, -⟩ := h
  exact hpos

/-- A clear message meets every clause on the message state. -/
theorem inv_of_clear {s : State} (hp : ParamsLegal s.params) (hr : ReservedBitsZero s) (hc : OpenConfigValid s)
    (hm : s.msg = Message.clear) : Inv s where
  params := hp
  stores := by simp [StoresFit, hm, Message.clear]
  reserved := hr
  config := hc
  window ho := by
    rw [hm]
    exact windowLen_pos (hc ho)
  lifecycle := lifecycle_of_clear hm
  peak := by
    rw [PeakIsNumber, hm]
    decide
  payload := by simp [PayloadWithinStream, hm, Message.clear]
  entries := by simp [OutputEntries, hm, Message.clear]

/-! ## The host's effects -/

theorem inv_raise {s : State} (h : Inv s) (e : Event) : Inv (s.raise e) := by
  obtain ⟨hcfg, hintEn, hevents⟩ := (reservedBitsZero_iff s).mp h.reserved
  exact ⟨h.params, h.stores, (reservedBitsZero_iff _).mpr ⟨hcfg, hintEn, (reservedEvents_raise s e).trans hevents⟩,
    h.config, h.window, h.lifecycle, h.peak, h.payload, h.entries⟩

theorem lifecycle_popOutput {s : State} (h : Lifecycle s) : Lifecycle (popOutput s) := by
  cases ho : s.isOpen with
  | true =>
    obtain ⟨hresults, hinput⟩ := (lifecycle_open ho).mp h
    refine lifecycle_of_open ho (fun hbefore => ?_) hinput
    obtain ⟨hseq, hfifo, hrest⟩ := hresults hbefore
    exact ⟨hseq, by simp [hfifo], hrest⟩
  | false =>
    obtain hs | hs := not_isOpen ho
    · exact (lifecycle_done (s := popOutput s) hs).mpr ((lifecycle_done hs).mp h)
    · have hm := (lifecycle_idle_or_error hs).mp h
      refine lifecycle_of_clear ?_
      rw [popOutput_msg, hm]
      rfl

theorem inv_popOutput {s : State} (h : Inv s) : Inv (popOutput s) := by
  obtain ⟨hsfifo, hofifo, hbits⟩ := h.stores
  obtain ⟨hseq, hfifo⟩ := h.entries
  refine ⟨h.params, ⟨hsfifo, ?_, hbits⟩, h.reserved, h.config, h.window, lifecycle_popOutput h.lifecycle, h.peak,
    h.payload, hseq, fun e he => hfifo e (List.mem_of_mem_tail he)⟩
  exact (List.length_tail ▸ Nat.sub_le _ _ : s.msg.ofifo.tail.length ≤ _).trans hofifo

theorem inv_writeConfig {s : State} (h : Inv s) (r : CfgReg) (d : Word) : Inv (writeConfig r d s) := by
  rcases writeConfig_spec r d s with ⟨-, e⟩ | ⟨hclosed, e⟩ <;> rw [e]
  · exact inv_raise h _
  · obtain ⟨hcfg, hrest⟩ := (reservedBitsZero_iff s).mp h.reserved
    have hnot : ¬ s.isOpen = true := by simp [hclosed]
    exact ⟨h.params, h.stores, (reservedBitsZero_iff _).mpr ⟨reservedBitsZero_set hcfg r d, hrest⟩,
      fun ho => absurd ho hnot, fun ho => absurd ho hnot, h.lifecycle, h.peak, h.payload, h.entries⟩

theorem inv_offerSample {s : State} (h : Inv s) (x : F64) : Inv (offerSample x s) := by
  rcases offerSample_spec x s with ⟨-, e⟩ | ⟨-, -, e⟩ | ⟨hrun, hroom, ev, hev, e⟩ <;> rw [e]
  · exact inv_raise h _
  · exact inv_raise h _
  · have hreserved : ReservedBitsZero { s with events := ev } := by
      obtain rfl | rfl := hev
      · exact h.reserved
      · exact (inv_raise h .nonfinite).reserved
    obtain ⟨hsfifo, hofifo, hbits⟩ := h.stores
    have ho : s.isOpen = true := (isOpen_iff s).mpr (.inl hrun)
    have hresults := ((lifecycle_open ho).mp h.lifecycle).1 (.inl hrun)
    have hfits : (s.msg.sfifo ++ [x]).length ≤ s.params.sfifoDepth := by
      rw [List.length_append, List.length_singleton]
      omega
    exact ⟨h.params, ⟨hfits, hofifo, hbits⟩, hreserved, h.config, h.window,
      lifecycle_of_open ho (fun _ => hresults) (fun hfin => by simp [hrun] at hfin), h.peak, h.payload, h.entries⟩

theorem inv_clearEvents {s : State} (h : Inv s) (d : Word) : Inv (clearEvents d s) := by
  obtain ⟨hcfg, hintEn, hevents⟩ := (reservedBitsZero_iff s).mp h.reserved
  refine ⟨h.params, h.stores, (reservedBitsZero_iff _).mpr ⟨hcfg, hintEn, ?_⟩, h.config, h.window, h.lifecycle,
    h.peak, h.payload, h.entries⟩
  rw [reservedEvents, clearEvents_events, BitVec.and_assoc, BitVec.and_comm (~~~_), ← BitVec.and_assoc,
    ← reservedEvents, hevents]
  exact BitVec.zero_and

theorem inv_setIntEn {s : State} (h : Inv s) (d : Word) : Inv { s with intEn := d &&& intEnMask } := by
  obtain ⟨hcfg, -, hevents⟩ := (reservedBitsZero_iff s).mp h.reserved
  exact ⟨h.params, h.stores, (reservedBitsZero_iff _).mpr ⟨hcfg, and_mask_and_not_mask d _, hevents⟩, h.config,
    h.window, h.lifecycle, h.peak, h.payload, h.entries⟩

theorem inv_startMessage {s : State} (h : Inv s) : Inv (startMessage s) := by
  rcases startMessage_spec s with ⟨-, e⟩ | ⟨-, hvalid, e⟩ | ⟨-, -, e⟩ <;> rw [e]
  · exact inv_raise h _
  · exact inv_of_clear h.params h.reserved (fun _ => hvalid) rfl
  · have herror : Inv { s.clearMessage with state := .error } :=
      inv_of_clear h.params h.reserved (fun ho => by simp at ho) rfl
    exact inv_raise herror _

theorem inv_endMessage {s : State} (h : Inv s) : Inv (endMessage s) := by
  rcases endMessage_spec s with ⟨hrun, e⟩ | ⟨-, e⟩ <;> rw [e]
  · have ho : s.isOpen = true := (isOpen_iff s).mpr (.inl hrun)
    have hresults := ((lifecycle_open ho).mp h.lifecycle).1 (.inl hrun)
    exact ⟨h.params, h.stores, h.reserved, fun _ => h.config ho, fun _ => h.window ho,
      lifecycle_of_open rfl (fun _ => hresults) (fun _ hdrain => absurd rfl hdrain), h.peak, h.payload, h.entries⟩
  · exact inv_raise h _

theorem inv_resetBlock {s : State} (h : Inv s) : Inv (resetBlock s) :=
  inv_of_clear h.params (by decide : ReservedBitsZero State.reset) (fun ho => by simp at ho) rfl

/-- Every effect of a host access keeps the invariant. -/
theorem HostEffect.inv {s t : State} (h : HostEffect s t) (hi : Inv s) : Inv t := by
  cases h with
  | none => exact hi
  | pop => exact inv_popOutput hi
  | config r d => exact inv_writeConfig hi r d
  | sample x => exact inv_offerSample hi x
  | latch | index =>
    exact ⟨hi.params, hi.stores, hi.reserved, hi.config, hi.window, hi.lifecycle, hi.peak, hi.payload, hi.entries⟩
  | clear d => exact inv_clearEvents hi d
  | enables d => exact inv_setIntEn hi d
  | start => exact inv_startMessage hi
  | finish => exact inv_endMessage hi
  | abort => exact inv_of_clear hi.params hi.reserved (fun ho => by simp at ho) rfl
  | reset => exact inv_resetBlock hi
  | reserved => exact inv_raise hi _

theorem exec_inv {i : Instr} {s t : State} (h : exec i s = .next t) (hi : Inv s) : Inv t := by
  obtain ⟨u, r, v, hu, he⟩ := exec_answers i s
  cases he.symm.trans h
  exact (sameBlock_respond u r v).inv (hu.inv hi)

/-! ## Demodulating a window -/

@[simp] theorem reservedEvents_storeSymbol (bit unk : Bool) (s : State) :
    reservedEvents (storeSymbol bit unk s) = reservedEvents s := by
  rcases storeSymbol_spec bit unk s with ⟨-, e⟩ | ⟨-, e⟩ <;> rw [e]
  · rfl
  · exact reservedEvents_raise _ _

@[simp] theorem reservedEvents_windowComplete (w : List F64) (s : State) :
    reservedEvents (windowComplete w s) = reservedEvents s := by
  unfold windowComplete appendSymbol
  dsimp only
  split
  · rfl
  · exact reservedEvents_storeSymbol _ _ _
  · exact reservedEvents_storeSymbol _ _ _

/-- The clauses on parameters, configuration and EVENTS stand where only the message state changes. -/
theorem Inv.of_onlyMessage {s t : State} (h : Inv s) (ho : OnlyMessage s t)
    (hev : reservedEvents t = reservedEvents s) (hst : StoresFit t) (hw : WindowUnderAssembly t) (hl : Lifecycle t)
    (hp : PeakIsNumber t) (hpay : PayloadWithinStream t) (hent : OutputEntries t) : Inv t where
  params := by rw [ho.params]; exact h.params
  stores := hst
  reserved := by
    rw [reservedBitsZero_iff, ho.cfg, ho.intEn, hev]
    exact (reservedBitsZero_iff s).mp h.reserved
  config := by
    rw [OpenConfigValid, isOpen_congr ho.state, ho.params, ho.cfg]
    exact h.config
  window := hw
  lifecycle := hl
  peak := hp
  payload := hpay
  entries := hent

theorem WindowKeeps.noResultsYet {m n : Message} (h : WindowKeeps m n) (hm : NoResultsYet m) : NoResultsYet n := by
  rw [noResultsYet_iff] at hm ⊢
  rwa [h.outseq, h.ofifo, h.results]

theorem WindowEffect.lifecycle {s t : State} (h : WindowEffect s t) (ho : s.isOpen = true) (hl : Lifecycle s) :
    Lifecycle t := by
  obtain ⟨hresults, hinput⟩ := (lifecycle_open ho).mp hl
  rw [lifecycle_open ((isOpen_congr h.only.state).trans ho), h.only.state, h.keeps.fphase, h.keeps.sfifo,
    h.keeps.winbuf]
  exact ⟨fun hbefore => h.keeps.noResultsYet (hresults hbefore), hinput⟩

theorem WindowEffect.payload {s t : State} (h : WindowEffect s t) (hp : PayloadWithinStream s) :
    PayloadWithinStream t := by
  obtain ⟨hstart, hend⟩ := payload_eq_of_results h.keeps.results
  rw [PayloadWithinStream, hstart, hend]
  exact ⟨hp.1, hp.2.trans h.keeps.prefix_.length_le⟩

theorem WindowEffect.inv {s t : State} (h : WindowEffect s t) (ho : s.isOpen = true)
    (hev : reservedEvents t = reservedEvents s) (hi : Inv s) : Inv t := by
  obtain ⟨hsfifo, hofifo, hbits⟩ := hi.stores
  refine hi.of_onlyMessage h.only hev ?_ ?_ (h.lifecycle ho hi.lifecycle) ?_ (h.payload hi.payload) ?_
  · rw [StoresFit, h.keeps.sfifo, h.keeps.ofifo, h.only.params]
    exact ⟨hsfifo, hofifo, h.fits hbits⟩
  · rw [WindowUnderAssembly, isOpen_congr h.only.state, h.keeps.winbuf, h.only.cfg]
    exact hi.window
  · rw [PeakIsNumber, h.keeps.peak]
    exact hi.peak
  · rw [OutputEntries, h.keeps.outseq, h.keeps.ofifo]
    exact hi.entries

theorem inv_windowComplete {s : State} (h : Inv s) (ho : s.isOpen = true) (w : List F64) :
    Inv (windowComplete w s) :=
  (windowComplete_effect w s).inv ho (reservedEvents_windowComplete w s) h

/-! ## CONSUME and DRAIN -/

theorem fSign_fabs (a : F64) : fSign (fabs a) = false := by
  rw [fSign, getLsbD_fabs]
  rfl

/-- `fgt` is false of a NaN, so a new PEAK is a number, and `fabs` has cleared its sign (41_tone_energy.md R170). -/
theorem peakIsNumber_update {p : F64} (hp : isNaN p = false ∧ fSign p = false) (x : F64) :
    isNaN (if fgt (fabs x) p then fabs x else p) = false ∧
      fSign (if fgt (fabs x) p then fabs x else p) = false := by
  split
  · next hgt =>
    simp only [fgt, flt, Bool.and_eq_true, Bool.not_eq_true'] at hgt
    obtain ⟨⟨-, hnumber⟩, -⟩ := hgt
    exact ⟨hnumber, fSign_fabs x⟩
  · exact hp

/-- The input side after a sample is taken, with the window `w`: nothing is taken after DRAIN. -/
theorem inv_takeSample {s : State} (h : Inv s) (ho : s.isOpen = true) {x : F64} {rest : List F64}
    (hs : s.msg.sfifo = x :: rest) (w : List F64) (hw : w.length < s.cfg.windowLen) :
    Inv { s with msg := { s.msg with
      sfifo := rest, peak := if fgt (fabs x) s.msg.peak then fabs x else s.msg.peak, winbuf := w } } := by
  obtain ⟨hsfifo, hofifo, hbits⟩ := h.stores
  obtain ⟨hresults, hinput⟩ := (lifecycle_open ho).mp h.lifecycle
  have hdrain : s.state = .finish → s.msg.fphase = .drain := fun hfin => by
    by_contra hp
    obtain ⟨hempty, -⟩ := hinput hfin hp
    rw [hs] at hempty
    cases hempty
  refine ⟨h.params, ⟨?_, hofifo, hbits⟩, h.reserved, h.config, fun _ => hw, ?_, peakIsNumber_update h.peak x,
    h.payload, h.entries⟩
  · rw [hs, List.length_cons] at hsfifo
    exact Nat.le_of_succ_le hsfifo
  · exact lifecycle_of_open ho hresults fun hfin hp => absurd (hdrain hfin) hp

theorem inv_consumeStep {s : State} (h : Inv s) (ho : s.isOpen = true) : Inv (consumeStep s) := by
  unfold consumeStep
  split
  · exact h
  · next x rest hs =>
    have hwin := h.window ho
    unfold closeWindow
    split
    · exact inv_windowComplete (inv_takeSample h ho hs [] (Nat.zero_lt_of_lt hwin)) ho _
    · next hlen =>
      refine inv_takeSample h ho hs (s.msg.winbuf ++ [x]) ?_
      simp only [consumeSample_msg, consumeSample_cfg, List.length_append, List.length_singleton] at hlen ⊢
      omega

theorem inv_drainStep {s : State} (h : Inv s) (hfin : s.state = .finish) (hs : s.msg.sfifo = [])
    (hp : s.msg.fphase = .drain) : Inv (drainStep s) := by
  have ho : s.isOpen = true := (isOpen_iff s).mpr (.inr hfin)
  have hresults := ((lifecycle_open ho).mp h.lifecycle).1 (.inr (by simp [hp]))
  have hcut : Inv { s with msg := { s.msg with winbuf := [], fphase := .compute } } :=
    ⟨h.params, h.stores, h.reserved, h.config, fun _ => Nat.zero_lt_of_lt (h.window ho),
      lifecycle_of_open ho (fun _ => hresults) fun _ _ => ⟨hs, rfl⟩, h.peak, h.payload, h.entries⟩
  unfold drainStep
  dsimp only
  split
  · exact inv_windowComplete hcut ho _
  · exact hcut

/-! ## The synchronizer: a located marker ends within the stream -/

/-- A round of the scan keeps the best match or takes the present position (43_frame_sync.md R213). -/
theorem betterMatch_eq_some {b m : List Bool} {e p : Nat} {best : Option (Nat × Nat)} {x : Nat × Nat}
    (h : betterMatch b m e best p = some x) : best = some x ∨ x = (p, hamming b m p) := by
  unfold betterMatch at h
  cases best with
  | none =>
    dsimp only at h
    split at h <;> cases h
    exact .inr rfl
  | some y =>
    dsimp only at h
    split at h <;> cases h
    · exact .inr rfl
    · exact .inl rfl

theorem foldl_betterMatch_mem {b m : List Bool} {e : Nat} (ps : List Nat) {best : Option (Nat × Nat)}
    {x : Nat × Nat} (h : ps.foldl (betterMatch b m e) best = some x) : best = some x ∨ x.1 ∈ ps := by
  induction ps generalizing best with
  | nil => exact .inl h
  | cons p ps ih =>
    obtain hbest | hmem := ih h
    · exact (betterMatch_eq_some hbest).imp_right fun hx => by simp [hx]
    · exact .inr (List.mem_cons_of_mem p hmem)

/-- A position that `locate` gives leaves room for the marker (43_frame_sync.md R211, R213). -/
theorem locate_le {b m : List Bool} {e w p d : Nat} (h : locate b m e w = some (p, d)) :
    p + m.length ≤ b.length := by
  obtain hnone | hmem := foldl_betterMatch_mem _ h
  · cases hnone
  · rw [candidates, List.mem_filter, List.mem_range] at hmem
    omega

theorem headSearch_le {c : ConfigRegs} {b : List Bool} {p d : Nat} (h : headSearch c b = some (p, d)) :
    p + c.headLen ≤ b.length := by
  simpa using locate_le h

theorem tailSearch_le {c : ConfigRegs} {b : List Bool} {p d : Nat} (h : tailSearch c b = some (p, d)) :
    p ≤ b.length :=
  Nat.le_of_add_right_le (locate_le h)

theorem payloadWithinStream_setPayload {ps pe : Nat} {s : State} (hle : ps ≤ pe) (hpe : pe ≤ s.msg.bitbuf.length)
    (hlen : s.msg.bitbuf.length < 2 ^ 32) : PayloadWithinStream (setPayload ps pe s) := by
  rw [PayloadWithinStream, setPayload_msg]
  dsimp only
  rw [BitVec.toNat_ofNat, BitVec.toNat_ofNat, Nat.mod_eq_of_lt (by omega), Nat.mod_eq_of_lt (by omega)]
  exact ⟨hle, hpe⟩

theorem payloadWithinStream_missedMarker {ps pe : Nat} {s : State} (h : PayloadWithinStream s) (hle : ps ≤ pe)
    (hpe : pe ≤ s.msg.bitbuf.length) (hlen : s.msg.bitbuf.length < 2 ^ 32) :
    PayloadWithinStream (missedMarker ps pe s).1 := by
  unfold missedMarker
  split
  · exact h
  · exact payloadWithinStream_setPayload hle hpe hlen

theorem payloadWithinStream_sync {s : State} (hlen : s.msg.bitbuf.length < 2 ^ 32) :
    PayloadWithinStream (sync s).1 := by
  have hbits : s.msg.bits.length = s.msg.bitbuf.length := List.length_map _
  unfold sync
  dsimp only
  split
  · exact payloadWithinStream_missedMarker ⟨Nat.le_refl 0, Nat.zero_le _⟩ (Nat.zero_le _) hbits.le hlen
  · next ph eh hhead =>
    have hst : ph + s.cfg.headLen ≤ s.msg.bits.length := headSearch_le hhead
    split
    · exact payloadWithinStream_missedMarker ⟨Nat.le_refl 0, Nat.zero_le _⟩ hst hbits.le hlen
    · next pt et htail =>
      have hpt := tailSearch_le htail
      rw [List.length_drop] at hpt
      exact payloadWithinStream_setPayload (Nat.le_add_right _ _)
        (show _ ≤ s.msg.bitbuf.length by omega) hlen

@[simp] theorem reservedEvents_missedMarker (ps pe : Nat) (s : State) :
    reservedEvents (missedMarker ps pe s).1 = reservedEvents s := by
  unfold missedMarker
  split
  · exact reservedEvents_raise s _
  · rfl

@[simp] theorem reservedEvents_sync (s : State) : reservedEvents (sync s).1 = reservedEvents s := by
  unfold sync
  dsimp only
  split
  · exact (reservedEvents_missedMarker _ _ _).trans (reservedEvents_raise _ _)
  · split
    · exact (reservedEvents_missedMarker _ _ _).trans (reservedEvents_raise _ _)
    · rfl

/-! ## COMPUTE -/

/-- What phase 2 can do (45_destuffer.md R258): too weak, no payload, or a payload to decode. -/
theorem phase2_cases (s : State) :
    phase2 s = emptyOutput (s.raise .weak) ∨
    phase2 s = emptyOutput (sync s).1 ∨
    ∃ ps pe, (sync s).2 = some (ps, pe) ∧ phase2 s = decodePayload ps pe (sync s).1 := by
  unfold phase2
  split
  · exact .inl rfl
  · split
    · next t e => exact .inr (.inl (by rw [e]))
    · next t ps pe e => exact .inr (.inr ⟨ps, pe, by rw [e], by rw [e]⟩)

@[simp] theorem reservedEvents_decodePayload (ps pe : Nat) (s : State) :
    reservedEvents (decodePayload ps pe s) = reservedEvents s := by
  unfold decodePayload
  dsimp only
  split
  · exact reservedEvents_raise s _
  · rfl

theorem payloadWithinStream_decodePayload {s : State} (h : PayloadWithinStream s) (ps pe : Nat) :
    PayloadWithinStream (decodePayload ps pe s) := by
  unfold decodePayload
  dsimp only
  split <;> exact h

/-- OUTSEQ after phase 2 is the entries of some bytes, none of them where there is no payload. -/
theorem phase2_outseq (s : State) : ∃ bytes : List Byte, (phase2 s).msg.outseq = bytes.map outEntry := by
  rcases phase2_cases s with e | e | ⟨ps, pe, -, e⟩ <;> rw [e]
  · exact ⟨[], rfl⟩
  · exact ⟨[], rfl⟩
  · exact ⟨_, rfl⟩

theorem reservedEvents_phase2 (s : State) : reservedEvents (phase2 s) = reservedEvents s := by
  rcases phase2_cases s with e | e | ⟨ps, pe, -, e⟩ <;> rw [e]
  · exact reservedEvents_raise s .weak
  · exact reservedEvents_sync s
  · exact (reservedEvents_decodePayload ps pe _).trans (reservedEvents_sync s)

theorem payloadWithinStream_phase2 {s : State} (h : PayloadWithinStream s) (hlen : s.msg.bitbuf.length < 2 ^ 32) :
    PayloadWithinStream (phase2 s) := by
  have hsync := payloadWithinStream_sync hlen
  rcases phase2_cases s with e | e | ⟨ps, pe, -, e⟩ <;> rw [e]
  · exact h
  · exact hsync
  · exact payloadWithinStream_decodePayload hsync ps pe

theorem Inv.bitbuf_lt {s : State} (h : Inv s) : s.msg.bitbuf.length < 2 ^ 32 := by
  obtain ⟨-, ⟨-, hdepth⟩, -⟩ := h.params
  obtain ⟨-, -, hbits⟩ := h.stores
  omega

theorem computeStep_msg (s : State) : (computeStep s).msg = { (phase2 s).msg with fphase := .deliver } := rfl

theorem inv_computeStep {s : State} (h : Inv s) (hfin : s.state = .finish) (hp : s.msg.fphase = .compute) :
    Inv (computeStep s) := by
  have ho : s.isOpen = true := (isOpen_iff s).mpr (.inr hfin)
  have honly := computeStep_onlyMessage s
  have ho' : (computeStep s).isOpen = true := (isOpen_congr honly.state).trans ho
  have hkeeps := (phase2_effect s).2
  obtain ⟨hs, hwin⟩ := ((lifecycle_open ho).mp h.lifecycle).2 hfin (by simp [hp])
  obtain ⟨bytes, hbytes⟩ := phase2_outseq s
  refine h.of_onlyMessage honly (reservedEvents_phase2 s) ?stores ?window ?lifecycle ?peak
    (payloadWithinStream_phase2 h.payload h.bitbuf_lt) ⟨?outseq, ?ofifo⟩
  case stores =>
    rw [StoresFit, honly.params, computeStep_msg]
    dsimp only
    rw [hkeeps.sfifo, hkeeps.ofifo, hkeeps.bitbuf]
    exact h.stores
  case window =>
    rw [WindowUnderAssembly, isOpen_congr honly.state, honly.cfg, computeStep_msg]
    dsimp only
    rw [hkeeps.winbuf]
    exact h.window
  case lifecycle =>
    rw [lifecycle_open ho', honly.state, computeStep_msg]
    exact ⟨fun hbefore => by simp [hfin] at hbefore,
      fun _ _ => ⟨hkeeps.sfifo.trans hs, hkeeps.winbuf.trans hwin⟩⟩
  case peak =>
    rw [PeakIsNumber, computeStep_msg]
    dsimp only
    rw [hkeeps.peak]
    exact h.peak
  case outseq =>
    rw [computeStep_msg]
    dsimp only
    rw [hbytes]
    intro e he
    obtain ⟨b, -, rfl⟩ := List.mem_map.mp he
    exact ⟨b, rfl⟩
  case ofifo =>
    rw [computeStep_msg]
    dsimp only
    rw [hkeeps.ofifo]
    exact h.entries.2

/-! ## DELIVER and COMPLETE -/

theorem inv_deliverStep {s : State} (h : Inv s) (hfin : s.state = .finish) (hp : s.msg.fphase = .deliver)
    (hroom : s.msg.ofifo.length < s.params.ofifoDepth) : Inv (deliverStep s) := by
  unfold deliverStep
  split
  · exact h
  · next x rest hseq =>
    have ho : s.isOpen = true := (isOpen_iff s).mpr (.inr hfin)
    have hinput := ((lifecycle_open ho).mp h.lifecycle).2
    obtain ⟨hsfifo, -, hbits⟩ := h.stores
    obtain ⟨hleft, hdelivered⟩ := h.entries
    rw [hseq, List.forall_mem_cons] at hleft
    have hfits : (s.msg.ofifo ++ [x]).length ≤ s.params.ofifoDepth := by
      rw [List.length_append, List.length_singleton]
      exact hroom
    exact ⟨h.params, ⟨hsfifo, hfits, hbits⟩, h.reserved, h.config, h.window,
      lifecycle_of_open ho (fun hbefore => by simp [hfin, hp] at hbefore) hinput, h.peak, h.payload, hleft.2,
      List.forall_mem_append.mpr ⟨hdelivered, List.forall_mem_singleton.mpr hleft.1⟩⟩

theorem inv_completeStep {s : State} (h : Inv s) (hfin : s.state = .finish) (hp : s.msg.fphase = .deliver)
    (hseq : s.msg.outseq = []) : Inv (completeStep s) := by
  have ho : s.isOpen = true := (isOpen_iff s).mpr (.inr hfin)
  obtain ⟨hs, hwin⟩ := ((lifecycle_open ho).mp h.lifecycle).2 hfin (by simp [hp])
  have hdone : Inv { s with state := .done } :=
    ⟨h.params, h.stores, h.reserved, fun ho => by simp at ho, fun ho => by simp at ho, ⟨hs, hwin, hseq⟩, h.peak,
      h.payload, h.entries⟩
  exact inv_raise hdone _

/-! ## The statement on the invariant -/

/-- Every turn of the engine keeps the invariant. -/
theorem inv_engineStep {s : State} (h : Inv s) : Inv (engineStep s) := by
  rcases engineStep_cases s with ⟨he, e⟩ | ⟨he, e⟩ | ⟨he, e⟩ | ⟨he, e⟩ | ⟨he, e⟩ | ⟨-, e⟩ <;> rw [e]
  · obtain ⟨ho, -⟩ := (enabledStep_iff s .consume).mp he
    exact inv_consumeStep h ho
  · obtain ⟨hfin, hs, hp⟩ := (enabledStep_iff s .drain).mp he
    exact inv_drainStep h hfin hs hp
  · obtain ⟨hfin, -, hp⟩ := (enabledStep_iff s .compute).mp he
    exact inv_computeStep h hfin hp
  · obtain ⟨hfin, -, hp, -, hroom⟩ := (enabledStep_iff s .deliver).mp he
    exact inv_deliverStep h hfin hp hroom
  · obtain ⟨hfin, -, hp, hseq⟩ := (enabledStep_iff s .complete).mp he
    exact inv_completeStep h hfin hp hseq
  · exact h

theorem Performs.inv {s t : State} {a : Action} (h : Performs s a t) (hi : Inv s) : Inv t := by
  cases h with
  | engine => exact inv_engineStep hi
  | access i _ he => exact exec_inv he hi
  | resetLine => exact inv_resetBlock hi
  | nothing => exact hi

/-- Settles O51: a step performs its action, and each performance keeps the invariant. -/
theorem everyStepKeepsTheInvariant : Obligations.EveryStepKeepsTheInvariant := by
  intro s t hi h
  obtain ⟨s', t', hs, hp, ht⟩ := step_performs h
  exact ht.inv (hp.inv (hs.inv hi))

end Sys2Proof.Machine

/-! # Proofs: the accesses of the register map, the lock of the configuration, and the fairness of the engine

An access of an open message that is neither ABORT nor SOFT_RESET keeps the message (`KeepsOpenMessage`): its
configuration, and whatever enables an engine step. The lock (20_memory.md R84) and the fairness (R71) rest on that. -/

namespace Sys2Proof.Machine

/-! ## Reads and refused accesses (20_memory.md R76–R79) -/

/-- Settles O7: the value of a write-only register is 0. -/
theorem writeOnlyRegistersReadZero : Obligations.WriteOnlyRegistersReadZero :=
  fun _ => ⟨rfl, rfl, rfl⟩

/-- Settles O9: each of the 22 accesses is refused by its own row. -/
theorem reservedOffsetsAreRefused : Obligations.ReservedOffsetsAreRefused := by
  intro s d
  and_intros <;> rfl

theorem decodeBus_write (woff : BitVec 6) (d : Word) : decodeBus (busWord true woff d) = decodeWrite woff d := by
  rw [decodeBus, busRw_busWord, if_pos rfl, busWoff_busWord, busData_busWord]

/-- The write at the offset of an RO or RP register is the refused one (20_memory.md R76). -/
theorem refusedBy_write {r : Reg} (hr : regAccess r = .ro ∨ regAccess r = .rp) (d : Word) (s : State) :
    Claims.RefusedBy (decodeBus (busWord true (regWoff r) d)) s := by
  rw [decodeBus_write]
  cases r
  case cfg | cmd | events | intEn | sampleLo | sampleHi | bitbufAddr => simp [regAccess] at hr
  all_goals rfl

/-- Settles O8: by the register map for every RO and RP register, and by the 30 rows themselves. -/
theorem writesOfReadOnlyRegistersAreRefused : Obligations.WritesOfReadOnlyRegistersAreRefused := by
  intro s d
  refine ⟨fun r hr => refusedBy_write hr d s, ?_⟩
  and_intros <;> rfl

/-- The read at each offset is the row of that offset (30_encoding.md R101). -/
theorem encode_decodeRead (woff : BitVec 6) : encode (decodeRead woff) = busWord false woff 0 := by
  revert woff
  decide

/-- The response shows no response given before. -/
@[simp] theorem regValue_respond (r : Reg) (s : State) (resp : Resp) (v : Word) :
    regValue r (s.respond resp v) = regValue r s := by
  cases r <;> rfl

/-- The instruction shows a register or is refused; it has no other effect in any state. -/
inductive OnlyShows (i : Instr) : Prop where
  | register (r : Reg) : (∀ s, exec i s = readReg r s) → OnlyShows i
  | refused : (∀ s, exec i s = refuseAccess s) → OnlyShows i

/-- What an instruction with RW = 0 can be. -/
theorem read_cases (i : Instr) (h : busRw (encode i) = false) : i = .rdOutData ∨ OnlyShows i := by
  cases i
  case rdOutData => exact .inl rfl
  all_goals first
    | exact .inr (.register _ fun _ => rfl)
    | exact .inr (.refused fun _ => rfl)
    | simp [encode] at h

theorem OnlyShows.read_again {i : Instr} (h : OnlyShows i) (s : State) :
    ∃ (r : Resp) (v : Word), exec i s = .next (s.respond r v) ∧
      exec i (s.respond r v) = .next ((s.respond r v).respond r v) := by
  cases h with
  | register r h => exact ⟨.ok, regValue r s, h s, by rw [h, readReg, regValue_respond]⟩
  | refused h => exact ⟨.busErr, 0, h s, h _⟩

/-- Settles O20: a read other than that of OUT_DATA only shows, and what it shows is no response. -/
theorem readsHaveNoSideEffect : Obligations.ReadsHaveNoSideEffect := by
  intro s w hread hwoff
  have hdecode : decodeBus w = decodeRead (busWoff w) := by simp [decodeBus, hread]
  have hencode := encode_decodeRead (busWoff w)
  rw [hdecode]
  obtain hout | hshows := read_cases (decodeRead (busWoff w)) (by rw [hencode, busRw_busWord])
  · rw [hout] at hencode
    have hoff : busWoff w = 0x1D := by
      calc busWoff w = busWoff (busWord false (busWoff w) 0) := (busWoff_busWord _ _ _).symm
        _ = busWoff (busWord false 0x1D 0) := congrArg busWoff hencode.symm
        _ = 0x1D := busWoff_busWord _ _ _
    exact absurd hoff hwoff
  · exact hshows.read_again s

/-! ## What an access leaves of an open message -/

/-- In FINISH the sub-phase and what is still to be delivered stand, and OFIFO has as much room or more. -/
structure KeepsFinish (s t : State) : Prop where
  state : t.state = .finish
  sfifo : t.msg.sfifo = s.msg.sfifo
  fphase : t.msg.fphase = s.msg.fphase
  outseq : t.msg.outseq = s.msg.outseq
  room : t.msg.ofifo.length ≤ s.msg.ofifo.length

/-- The message stays open, with its configuration and its waiting samples; from RUN it may go to FINISH. -/
structure KeepsOpenMessage (s t : State) : Prop where
  params : t.params = s.params
  cfg : t.cfg = s.cfg
  isOpen : t.isOpen = true
  samples : s.msg.sfifo <+: t.msg.sfifo
  finish : s.state = .finish → KeepsFinish s t

/-- The message is kept where the access leaves STATE, the configuration and the message state. -/
theorem keepsOpenMessage_of_eq {s t : State} (ho : s.isOpen = true) (hp : t.params = s.params)
    (hs : t.state = s.state) (hc : t.cfg = s.cfg) (hm : t.msg = s.msg) : KeepsOpenMessage s t where
  params := hp
  cfg := hc
  isOpen := by rw [isOpen_congr hs, ho]
  samples := by rw [hm]
  finish hf := ⟨hs.trans hf, by rw [hm], by rw [hm], by rw [hm], by rw [hm]⟩

theorem keepsOpenMessage_popOutput {s : State} (ho : s.isOpen = true) : KeepsOpenMessage s (popOutput s) :=
  ⟨rfl, rfl, ho, List.prefix_rfl, fun hf => ⟨hf, rfl, rfl, rfl, by simp⟩⟩

theorem keepsOpenMessage_raise {s : State} (ho : s.isOpen = true) (e : Event) : KeepsOpenMessage s (s.raise e) :=
  keepsOpenMessage_of_eq ho rfl rfl rfl rfl

theorem keepsOpenMessage_writeConfig {s : State} (ho : s.isOpen = true) (r : CfgReg) (d : Word) :
    KeepsOpenMessage s (writeConfig r d s) := by
  rw [writeConfig, if_pos ho]
  exact keepsOpenMessage_raise ho _

theorem keepsOpenMessage_startMessage {s : State} (ho : s.isOpen = true) :
    KeepsOpenMessage s (startMessage s) := by
  rw [startMessage, if_pos ho]
  exact keepsOpenMessage_raise ho _

theorem keepsOpenMessage_endMessage {s : State} (ho : s.isOpen = true) : KeepsOpenMessage s (endMessage s) := by
  rcases endMessage_spec s with ⟨hrun, e⟩ | ⟨-, e⟩ <;> rw [e]
  · exact ⟨rfl, rfl, rfl, List.prefix_rfl, fun hf => by simp [hrun] at hf⟩
  · exact keepsOpenMessage_raise ho _

theorem keepsOpenMessage_offerSample {s : State} (ho : s.isOpen = true) (x : F64) :
    KeepsOpenMessage s (offerSample x s) := by
  rcases offerSample_spec x s with ⟨-, e⟩ | ⟨-, -, e⟩ | ⟨hrun, -, _, -, e⟩ <;> rw [e]
  · exact keepsOpenMessage_raise ho _
  · exact keepsOpenMessage_raise ho _
  · exact ⟨rfl, rfl, ho, List.prefix_append _ _, fun hf => by simp [hrun] at hf⟩

/-- The instruction answers and keeps the open message. -/
def ExecKeepsOpenMessage (i : Instr) (s : State) : Prop :=
  ∃ t r v, exec i s = .next (State.respond t r v) ∧ KeepsOpenMessage s t

/-- ABORT and SOFT_RESET alone discard an open message (40_host_ops.md R134, R135). -/
theorem exec_openMessage (i : Instr) {s : State} (ho : s.isOpen = true) :
    (i = .cmdSoftReset ∧ exec i s = acknowledge (resetBlock s)) ∨
    (i = .cmdAbort ∧ exec i s = acknowledge (abortMessage s)) ∨
    ExecKeepsOpenMessage i s := by
  cases i
  case cmdSoftReset => exact .inl ⟨rfl, rfl⟩
  case cmdAbort => exact .inr (.inl ⟨rfl, rfl⟩)
  all_goals refine .inr (.inr ⟨_, _, _, rfl, ?_⟩)
  case rdOutData => exact keepsOpenMessage_popOutput ho
  case cmdStart => exact keepsOpenMessage_startMessage ho
  case cmdEnd => exact keepsOpenMessage_endMessage ho
  case wrSampleHi => exact keepsOpenMessage_offerSample ho _
  all_goals first
    | exact keepsOpenMessage_of_eq ho rfl rfl rfl rfl
    | exact keepsOpenMessage_writeConfig ho _ _

/-! ## The lock of the configuration (20_memory.md R84) -/

/-- No engine step writes a configuration register (70_reset_and_hazards.md R310). -/
theorem engineStep_cfg (s : State) : (engineStep s).cfg = s.cfg := by
  obtain h | h := engineStep_onlyMessage_or_complete s
  · exact h.cfg
  · rw [h, completeStep_cfg]

theorem Performs.cfg_of_open {s t : State} {a : Action} (h : Performs s a t) (ho : s.isOpen = true)
    (hsoft : a ≠ .access .cmdSoftReset) (hline : a ≠ .resetLine) : t.cfg = s.cfg := by
  cases h with
  | engine => exact engineStep_cfg s
  | resetLine => exact absurd rfl hline
  | nothing => rfl
  | access i _ he =>
    rcases exec_openMessage i ho with ⟨rfl, -⟩ | ⟨rfl, e⟩ | ⟨u, r, v, e, hk⟩
    · exact absurd rfl hsoft
    · cases e.symm.trans he; rfl
    · cases e.symm.trans he; exact hk.cfg

/-- Settles O56: the lock for the host's accesses, and no engine step writes the configuration. -/
theorem configurationIsFrozenWhileOpen : Obligations.ConfigurationIsFrozenWhileOpen := by
  refine ⟨fun s t h hopen hsoft hline => ?_, engineStep_cfg⟩
  obtain ⟨s', t', hs, hp, ht⟩ := step_performs h
  have ho : s'.isOpen = true := by rwa [isOpen_congr hs.state, isOpen_iff]
  exact ht.cfg.trans ((hp.cfg_of_open ho hsoft hline).trans hs.cfg)

/-! ## An enabled engine step stays enabled (20_memory.md R71) -/

theorem SameBlock.enabledStep {s t : State} (h : SameBlock s t) : enabledStep t = enabledStep s := by
  simp only [Machine.enabledStep, isOpen_congr h.state, h.state, h.msg, h.params]

theorem isOpen_of_enabledStep {s : State} {e : EngineStep} (h : enabledStep s = some e) : s.isOpen = true := by
  rw [enabledStep_iff] at h
  cases e with
  | consume => exact h.1
  | _ => exact (isOpen_iff s).mpr (.inr h.1)

/-- A kept message keeps the step that is enabled. -/
theorem KeepsOpenMessage.enabledStep {s t : State} {e : EngineStep} (h : KeepsOpenMessage s t)
    (he : enabledStep s = some e) : enabledStep t = some e := by
  rw [enabledStep_iff] at he ⊢
  cases e with
  | consume =>
    obtain ⟨-, hwaiting⟩ := he
    exact ⟨h.isOpen, h.samples.ne_nil hwaiting⟩
  | drain | compute | complete =>
    obtain ⟨hstate, sfifo, fphase, outseq, -⟩ := h.finish he.1
    simpa only [hstate, sfifo, fphase, outseq, true_and] using he.2
  | deliver =>
    obtain ⟨hfin, hsfifo, hphase, hseq, hroom⟩ := he
    have k := h.finish hfin
    exact ⟨k.state, k.sfifo.trans hsfifo, k.fphase.trans hphase, k.outseq ▸ hseq,
      h.params ▸ k.room.trans_lt hroom⟩

theorem Performs.enabledStep {s t : State} {a : Action} {e : EngineStep} (h : Performs s a t)
    (he : enabledStep s = some e) (htaken : a ≠ .engine e) (habort : a ≠ .access .cmdAbort)
    (hsoft : a ≠ .access .cmdSoftReset) (hline : a ≠ .resetLine) : enabledStep t = some e := by
  cases h with
  | engine e' he' => cases he'.symm.trans he; exact absurd rfl htaken
  | resetLine => exact absurd rfl hline
  | nothing => exact he
  | access i _ hexec =>
    rcases exec_openMessage i (isOpen_of_enabledStep he) with ⟨rfl, -⟩ | ⟨rfl, -⟩ | ⟨u, r, v, heq, hk⟩
    · exact absurd rfl hsoft
    · exact absurd rfl habort
    · cases heq.symm.trans hexec
      exact (sameBlock_respond u r v).enabledStep.trans (hk.enabledStep he)

/-- A step that neither takes the enabled engine step nor discards the message keeps it enabled. -/
theorem step_enabledStep {s t : State} {e : EngineStep} (he : enabledStep s = some e) (h : step s = .next t)
    (htaken : action s ≠ .engine e) (hkept : ¬ Claims.Discards s) : enabledStep t = some e := by
  obtain ⟨s', t', hs, hp, ht⟩ := step_performs h
  obtain ⟨habort, hsoft, hline⟩ : action s ≠ .access .cmdAbort ∧ action s ≠ .access .cmdSoftReset ∧
      action s ≠ .resetLine := by simpa only [Claims.Discards, not_or] using hkept
  rw [ht.enabledStep]
  exact hp.enabledStep (hs.enabledStep.trans he) htaken habort hsoft hline

/-! ## The engine's turn comes (70_reset_and_hazards.md R320) -/

theorem exec_completes (i : Instr) (s : State) : Completes (exec i s) := by
  obtain ⟨u, r, v, -, h⟩ := exec_answers i s
  exact ⟨_, h⟩

theorem platformStep_completes (base : Nat) (a : PlatformAccess) (s : State) :
    Completes (platformStep base a s) := by
  unfold platformStep
  split
  · exact exec_completes _ s
  · exact ⟨_, rfl⟩
  · exact ⟨_, rfl⟩

theorem hostStep_completes (s : State) : Completes (hostStep s) := by
  unfold hostStep
  split
  · exact ⟨s, rfl⟩
  · exact exec_completes _ _
  · next woff mask val rest _ =>
    obtain ⟨t, ht⟩ := exec_completes (decodeRead woff) { s with inbox := rest }
    rw [ht]
    exact ⟨_, rfl⟩
  · exact platformStep_completes _ _ _
  · exact ⟨_, rfl⟩

/-- No step stops (60_exceptions.md R290). -/
theorem step_completes (s : State) : Completes (step s) := by
  unfold step
  split
  · exact hostStep_completes _
  · exact ⟨_, rfl⟩

theorem stepsFrom_succ {s t : State} (h : step s = .next t) (n : Nat) : stepsFrom (n + 1) s = stepsFrom n t := by
  rw [stepsFrom, h]

theorem stepsFrom_turns (n : Nat) (s : State) :
    (stepsFrom n s).turns = s.turns.drop n ∧ (stepsFrom n s).ticks = s.ticks + n := by
  induction n generalizing s with
  | zero => exact ⟨rfl, rfl⟩
  | succ n ih =>
    obtain ⟨t, h⟩ := step_completes s
    obtain ⟨hturns, hticks⟩ := step_turns h
    obtain ⟨ihturns, ihticks⟩ := ih t
    rw [stepsFrom_succ h]
    constructor
    · rw [ihturns, hturns, List.drop_tail]
    · rw [ihticks, hticks]; omega

/-- From every state the engine's turn comes: the listed turns end, and the schedule is fair. -/
theorem exists_engineTurn (s : State) : ∃ n, nextAgent (stepsFrom n s) = .engine := by
  obtain ⟨m, hm, hengine⟩ := scheduled_fair Config.hostGap (s.ticks + s.turns.length)
  obtain ⟨hturns, hticks⟩ := stepsFrom_turns (m - s.ticks) s
  have hnil : (stepsFrom (m - s.ticks) s).turns = [] := by
    rw [hturns, List.drop_eq_nil_iff]; omega
  have hm' : (stepsFrom (m - s.ticks) s).ticks = m := by omega
  exact ⟨m - s.ticks, by rw [nextAgent_nil hnil, hm', hengine]⟩

/-- The enabled step `e` is taken, or the message discarded, after `n` steps, and it is enabled until then. -/
def TakenAfter (e : EngineStep) (n : Nat) (s : State) : Prop :=
  (action (stepsFrom n s) = .engine e ∨ Claims.Discards (stepsFrom n s)) ∧
  ∀ m ≤ n, enabledStep (stepsFrom m s) = some e

theorem TakenAfter.zero {e : EngineStep} {s : State} (he : enabledStep s = some e)
    (h : action s = .engine e ∨ Claims.Discards s) : TakenAfter e 0 s :=
  ⟨h, fun m hm => by rwa [Nat.le_zero.mp hm]⟩

theorem TakenAfter.succ {e : EngineStep} {n : Nat} {s t : State} (he : enabledStep s = some e)
    (h : step s = .next t) (ht : TakenAfter e n t) : TakenAfter e (n + 1) s := by
  obtain ⟨htaken, henabled⟩ := ht
  refine ⟨by rwa [stepsFrom_succ h], fun m hm => ?_⟩
  cases m with
  | zero => exact he
  | succ m => rw [stepsFrom_succ h]; exact henabled m (Nat.le_of_succ_le_succ hm)

/-- By induction on the number of steps to a turn of the engine, where the step is taken at the latest. -/
theorem exists_takenAfter {e : EngineStep} (n : Nat) {s : State} (hturn : nextAgent (stepsFrom n s) = .engine)
    (he : enabledStep s = some e) : ∃ k, TakenAfter e k s := by
  induction n generalizing s with
  | zero =>
    rw [stepsFrom] at hturn
    have htaken : action s = .engine e := by rw [action_engineTurn hturn, he]; rfl
    exact ⟨0, .zero he (.inl htaken)⟩
  | succ n ih =>
    by_cases hends : action s = .engine e ∨ Claims.Discards s
    · exact ⟨0, .zero he hends⟩
    · obtain ⟨htaken, hkept⟩ := not_or.mp hends
      obtain ⟨t, h⟩ := step_completes s
      rw [stepsFrom_succ h] at hturn
      obtain ⟨k, hk⟩ := ih hturn (step_enabledStep he h htaken hkept)
      exact ⟨k + 1, .succ he h hk⟩

/-- Settles O60: a step keeps what is enabled, and the schedule gives the engine its turn. -/
theorem enabledEngineStepStaysEnabled : Obligations.EnabledEngineStepStaysEnabled := by
  refine ⟨fun _ _ _ => step_enabledStep, fun s e he => ?_⟩
  obtain ⟨n, hturn⟩ := exists_engineTurn s
  exact exists_takenAfter n hturn he

end Sys2Proof.Machine

/-! # Proofs: the encoding of the bus transactions, and what the host's turn makes of them

Every word offset holds one read and one write, each encoded as the transaction it was decoded from
(`encodesAs_decodeRead`, `encodesAs_decodeWrite`), and every well-formed instruction is decoded from its encoding
(`decodeBus_encode`). The host's turn runs what it decodes (`step_bus`, `step_poll`, `step_platform`). -/

namespace Sys2Proof.Machine

/-! ## From the transaction to the instruction and back (30_encoding.md R101) -/

theorem decodeBus_read (woff : BitVec 6) (d : Word) : decodeBus (busWord false woff d) = decodeRead woff := by
  rw [decodeBus, busRw_busWord, if_neg Bool.false_ne_true, busWoff_busWord]

/-- The instruction is well-formed, and the transaction is its encoding. -/
def EncodesAs (i : Instr) (w : BusWord) : Prop := wellFormed i = true ∧ encode i = w

theorem wellFormed_decodeRead (woff : BitVec 6) : wellFormed (decodeRead woff) = true := by
  revert woff
  decide

theorem encodesAs_decodeRead (woff : BitVec 6) : EncodesAs (decodeRead woff) (busWord false woff 0) :=
  ⟨wellFormed_decodeRead woff, encode_decodeRead woff⟩

/-- The five command words are the DATA words below 5 (30_encoding.md R104). -/
theorem isCommandWord_iff (d : Word) : isCommandWord d = true ↔ d = 0 ∨ d = 1 ∨ d = 2 ∨ d = 3 ∨ d = 4 := by
  rw [isCommandWord, decide_eq_true_iff]
  bv_omega

theorem decodeCmd_reserved {d : Word} (h : isCommandWord d = false) : decodeCmd d = .cmdReserved d := by
  have hd : ¬ (d = 0 ∨ d = 1 ∨ d = 2 ∨ d = 3 ∨ d = 4) := fun hd =>
    Bool.false_ne_true (h.symm.trans ((isCommandWord_iff d).mpr hd))
  simp only [not_or] at hd
  obtain ⟨h0, h1, h2, h3, h4⟩ := hd
  rw [decodeCmd, if_neg h0, if_neg h1, if_neg h2, if_neg h3, if_neg h4]

/-- Every DATA word of a CMD write is the code of one command (30_encoding.md R104). -/
theorem encodesAs_decodeCmd (d : Word) : EncodesAs (decodeCmd d) (busWord true 6 d) := by
  cases hd : isCommandWord d with
  | false =>
    rw [decodeCmd_reserved hd]
    exact ⟨by rw [wellFormed, hd]; rfl, rfl⟩
  | true => obtain rfl | rfl | rfl | rfl | rfl := (isCommandWord_iff d).mp hd <;> exact ⟨rfl, rfl⟩

/-- The 64 rows of the writes: CMD by its DATA, every other row by its own entry. -/
theorem encodesAs_decodeWrite (woff : BitVec 6) (d : Word) :
    EncodesAs (decodeWrite woff d) (busWord true woff d) := by
  obtain ⟨n, hn⟩ := woff
  interval_cases n
  all_goals first
    | exact ⟨rfl, rfl⟩
    | exact encodesAs_decodeCmd d

/-- Settles O23: the fields of the transaction select a row of the reads or of the writes. -/
theorem everyTransactionHasOneInstruction : Obligations.EveryTransactionHasOneInstruction := by
  intro w
  cases hrw : busRw w with
  | false =>
    have hdecode : decodeBus w = decodeRead (busWoff w) := by simp [decodeBus, hrw]
    rw [hdecode]
    exact encodesAs_decodeRead (busWoff w)
  | true =>
    have hdecode : decodeBus w = decodeWrite (busWoff w) (busData w) := by simp [decodeBus, hrw]
    have hfields : busWord true (busWoff w) (busData w) = w := by rw [← hrw, busWord_fields]
    have hencodes := encodesAs_decodeWrite (busWoff w) (busData w)
    rw [hdecode]
    rwa [hfields] at hencodes

/-! ## From the instruction to the transaction and back -/

/-- The offset that each row is encoded with selects that row again; CMD selects the reserved command by its DATA. -/
theorem decodeBus_encode {i : Instr} (h : wellFormed i = true) : decodeBus (encode i) = i := by
  cases i
  case cmdReserved d =>
    have hd : isCommandWord d = false := by simpa [wellFormed] using h
    exact (decodeBus_write 6 d).trans (decodeCmd_reserved hd)
  all_goals
    simp only [encode, decodeBus_read, decodeBus_write]
    rfl

/-! ## The layout as bytes (log 13) -/

/-- The 39 bits of a transaction fit in 5 bytes. -/
theorem bytesValue_toBytes_busWord (w : BusWord) : bytesValue (toBytes 5 w.toNat) = w.toNat := by
  rw [bytesValue_toBytes, Nat.mod_eq_of_lt]
  exact w.isLt.trans (by decide)

theorem decodeBytes_toBytes (w : BusWord) (rest : List Byte) :
    decodeBytes (toBytes 5 w.toNat ++ rest) = .ok (decodeBus w, rest) :=
  decodeBytes_of_value (toBytes_length 5 _) (bytesValue_toBytes_busWord w)

theorem decodeTableWord_toNat (w : BusWord) : decodeTableWord 40 w.toNat = some (decodeBus w) := by
  have hfits : w.toNat % 2 ^ 40 = w.toNat := Nat.mod_eq_of_lt (w.isLt.trans (by decide))
  have hdecode := decodeBytes_toBytes w []
  rw [List.append_nil] at hdecode
  rw [decodeTableWord, hfits, hdecode]

theorem decodeBytes_of_short {b : List Byte} (h : b.length < 5) : decodeBytes b = .error .truncated := by
  rw [decodeBytes, if_pos h]

/-- Settles O24: bytes and table words hold the transaction, and the transaction decodes to its instruction. -/
theorem decodingInvertsEncoding : Obligations.DecodingInvertsEncoding := by
  refine ⟨fun i hwf => ?_, fun b => decodeBytes_of_short⟩
  have hbus := decodeBus_encode hwf
  refine ⟨hbus, fun rest => ?_, ?_⟩
  · rw [encodeBytes, decodeBytes_toBytes, hbus]
  · rw [decodeTableWord_toNat, hbus]

/-- Settles O22: each of the words is the encoding of its instruction. -/
theorem writtenOutWordsDecode : Obligations.WrittenOutWordsDecode :=
  ⟨decodeBus_encode (i := .rdId) rfl, decodeBus_encode (i := .cmdStart) rfl,
    decodeBus_encode (i := .cmdReserved 0x11) rfl, decodeBus_encode (i := .wrSampleHi 0x3FF00000) rfl,
    decodeBus_encode (i := .rdOutData) rfl, decodeBus_encode (i := .wrSyncCfg 0xFFFFFFFF) rfl,
    decodeBus_encode (i := .wrStatusRefused 0x12345678) rfl, decodeBus_encode (i := .rdReservedD4Refused) rfl⟩

/-! ## The host's turn, by the head of the inbox (log 1) -/

section HostTurn

variable {s : State} {rest : List Input}

theorem step_hostTurn (h : nextAgent s = .host) : step s = hostStep s.takeTurn := by rw [step, h]

theorem step_idle (h : nextAgent s = .host) (hi : s.inbox = []) : step s = .next s.takeTurn := by
  rw [step_hostTurn h, hostStep, takeTurn_inbox, hi]

theorem step_bus {w : BusWord} (h : nextAgent s = .host) (hi : s.inbox = .bus w :: rest) :
    step s = exec (decodeBus w) { s.takeTurn with inbox := rest } := by
  rw [step_hostTurn h, hostStep, takeTurn_inbox, hi]

theorem step_poll {woff : BitVec 6} {mask val : Word} {t : State} (h : nextAgent s = .host)
    (hi : s.inbox = .poll woff mask val :: rest)
    (hread : exec (decodeRead woff) { s.takeTurn with inbox := rest } = .next t) :
    step s = .next (pollAgain woff mask val t) := by
  rw [step_hostTurn h, hostStep, takeTurn_inbox, hi]
  dsimp only
  rw [hread]

theorem step_platform {a : PlatformAccess} (h : nextAgent s = .host) (hi : s.inbox = .platform a :: rest) :
    step s = platformStep Config.base a { s.takeTurn with inbox := rest } := by
  rw [step_hostTurn h, hostStep, takeTurn_inbox, hi]

end HostTurn

/-- Settles O1: the host's turn runs the transaction at the head of the inbox. -/
theorem stepRunsDecodedTransaction : Obligations.StepRunsDecodedTransaction := by
  refine ⟨fun s w rest i hhost hinbox hdecode _ => ?_, fun s a rest => nextAgent_cons⟩
  rw [step_bus hhost hinbox, hdecode]
  rfl

/-! ## The platform adapter (20_memory.md R72, R74, R75; log 7) -/

section Adapter

variable {base : Nat} {a : PlatformAccess}

theorem adapt_forward (hlo : base ≤ a.addr) (hhi : a.addr < base + 256)
    (hword : a.size = .word ∧ (a.addr - base) % 4 = 0) :
    adapt base a =
      .forward (busWord a.write (BitVec.ofNat 6 ((a.addr - base) / 4)) (if a.write then a.data else 0)) := by
  have hin : ¬ (a.addr < base ∨ base + 256 ≤ a.addr) := by omega
  simp only [adapt, if_neg hin, if_pos hword]

theorem adapt_busError (hlo : base ≤ a.addr) (hhi : a.addr < base + 256)
    (hword : ¬ (a.size = .word ∧ (a.addr - base) % 4 = 0)) : adapt base a = .busError (a.addr - base) := by
  have hin : ¬ (a.addr < base ∨ base + 256 ≤ a.addr) := by omega
  simp only [adapt, if_neg hin, if_neg hword]

theorem adapt_elsewhere (hout : ¬ (base ≤ a.addr ∧ a.addr < base + 256)) : adapt base a = .elsewhere := by
  have hout' : a.addr < base ∨ base + 256 ≤ a.addr := by omega
  rw [adapt, if_pos hout']

end Adapter

/-- Settles O2: by the head of the inbox, and for a platform access by what the adapter makes of it. -/
theorem otherInputsOfTheHost : Obligations.OtherInputsOfTheHost := by
  intro s rest hhost u
  refine ⟨?idle, ?poll, ?platform⟩
  case idle =>
    intro hinbox hrest
    have hu : u = s.takeTurn := by simp only [u, State.takeTurn, hrest, ← hinbox]
    rw [hu]
    exact step_idle hhost hinbox
  case poll =>
    intro woff mask val t hinbox hread
    rw [decodeBus_read] at hread
    exact step_poll hhost hinbox hread
  case platform =>
    intro a hinbox off
    have hstep : step s = platformStep Config.base a u := step_platform hhost hinbox
    rw [hstep, platformStep]
    refine ⟨fun hlo hhi hsize halign => ?_, fun hlo hhi hword => ?_, fun hout => ?_⟩
    · rw [adapt_forward hlo hhi ⟨hsize, halign⟩]
    · rw [adapt_busError hlo hhi hword]
      exact ⟨_, rfl⟩
    · rw [adapt_elsewhere hout]

end Sys2Proof.Machine

/-! # Proofs: the host's operations and the engine's steps (40_host_ops.md)

Each read, command and write is followed to its exact next state, and each engine step by its row of the table
(`engineStep_consume` to `engineStep_complete`). In FINISH a turn of the engine that is not held uses up one of
`turnsLeft`, so FINISH ends in DONE or in the hold. -/

namespace Sys2Proof.Machine

/-! ## Reads (40_host_ops.md R146, R148) -/

/-- Settles O3: each row reads its register, whose value is the listed one. -/
theorem plainReadsReturnTheRegister : Obligations.PlainReadsReturnTheRegister := by
  intro s
  and_intros <;> rfl

/-- The fields of a word that is put together as STATUS is (10_state.md R34). -/
theorem statusFields : ∀ (bitbuf ofifo sfifo level : Bool) (code : BitVec 3),
    let w : Word := 0#25 ++ BitVec.ofBool bitbuf ++ BitVec.ofBool ofifo ++ BitVec.ofBool sfifo ++
      BitVec.ofBool level ++ code
    w.extractLsb' 0 3 = code ∧ w.getLsbD 3 = level ∧ w.getLsbD 4 = sfifo ∧ w.getLsbD 5 = ofifo ∧
      w.getLsbD 6 = bitbuf ∧ w.extractLsb' 7 25 = 0 := by
  decide

theorem irq_eq_decide (s : State) : irq s = decide (s.events &&& s.intEn ≠ 0) := by
  rw [irq, Bool.eq_iff_iff, bne_iff_ne, decide_eq_true_eq]

/-- Settles O4: the fields of the word of STATUS. -/
theorem statusShowsTheCurrentState : Obligations.StatusShowsTheCurrentState := by
  refine ⟨fun s => ⟨statusWord s, rfl, ?_⟩, rfl⟩
  obtain ⟨hcode, hlevel, hsfifo, hofifo, hbitbuf, hzero⟩ := statusFields
    (s.msg.bitbuf.length == s.params.bitbufDepth) (decide (s.msg.ofifo.length > 0))
    (s.msg.sfifo.length == s.params.sfifoDepth) (irq s) (stateCode s.state)
  refine ⟨hcode.trans ?code, hlevel.trans (irq_eq_decide s), hsfifo, hofifo.trans ?ofifo, hbitbuf, hzero⟩
  case code => cases s.state <;> rfl
  case ofifo => exact decide_eq_decide.mpr List.length_pos_iff

/-! ## Commands (40_host_ops.md R130–R136) -/

/-- A CMD word is a command where its reserved bits are 0 and its code is at most 4 (30_encoding.md R104). -/
theorem isCommandWord_eq_false_iff (d : Word) :
    isCommandWord d = false ↔ d.extractLsb' 4 28 ≠ 0 ∨ (d.extractLsb' 0 4).toNat > 4 := by
  have hreserved : d.extractLsb' 4 28 = 0 ↔ d.toNat / 2 ^ 4 = 0 := by
    rw [← BitVec.toNat_inj, BitVec.extractLsb'_toNat, Nat.shiftRight_eq_div_pow]
    have := d.isLt
    simp
    omega
  have hcode : (d.extractLsb' 0 4).toNat = d.toNat % 2 ^ 4 := by simp
  rw [isCommandWord, decide_eq_false_iff_not, hcode, Ne, hreserved]
  omega

/-- Settles O10: DATA names one of the five commands, or the reserved one. -/
theorem commandDispatch : Obligations.CommandDispatch := by
  intro s d
  refine ⟨?_, rfl, fun _ => rfl⟩
  have hdecode : decodeBus (busWord true 6 d) = decodeCmd d := decodeBus_write 6 d
  rw [hdecode]
  cases hd : isCommandWord d with
  | false =>
    rw [if_pos ((isCommandWord_eq_false_iff d).mp hd), decodeCmd_reserved hd]
    rfl
  | true => obtain rfl | rfl | rfl | rfl | rfl := (isCommandWord_iff d).mp hd <;> rfl

/-- A write that makes the state `u` and is acknowledged leads to it. -/
theorem leadsTo_of_acknowledge {i : Instr} {s t u : State} (h : exec i s = acknowledge u) (hu : u = t) :
    Claims.LeadsTo i s t := by
  rw [Claims.LeadsTo, h, hu]
  rfl

theorem isOpen_eq_false_iff (s : State) :
    s.isOpen = false ↔ s.state = .idle ∨ s.state = .done ∨ s.state = .error := by
  cases hs : s.state <;> simp [State.isOpen, hs]

section Commands

variable {s : State}

theorem startMessage_of_open (ho : s.isOpen = true) : startMessage s = s.raise .cmdErr := by
  rw [startMessage, if_pos ho]

theorem startMessage_of_valid (ho : s.isOpen = false) (hv : validConfig s.params.winMax s.cfg = true) :
    startMessage s = { s.clearMessage with state := .run } := by
  rw [startMessage, ho, if_neg Bool.false_ne_true, if_pos hv]

theorem startMessage_of_invalid (ho : s.isOpen = false) (hv : validConfig s.params.winMax s.cfg = false) :
    startMessage s = { s.clearMessage with state := .error }.raise .cfgErr := by
  rw [startMessage, ho, hv, if_neg Bool.false_ne_true, if_neg Bool.false_ne_true]

theorem endMessage_of_run (h : s.state = .run) :
    endMessage s = { s with state := .finish, msg := { s.msg with fphase := .drain } } := by
  rw [endMessage, if_pos h]

theorem endMessage_of_not_run (h : s.state ≠ .run) : endMessage s = s.raise .cmdErr := by
  rw [endMessage, if_neg h]

end Commands

/-- Settles O11: the three cases of START. -/
theorem startOpensAMessage : Obligations.StartOpensAMessage := by
  intro s
  refine ⟨fun hopen => ?_, fun hclosed => ?_⟩
  · exact leadsTo_of_acknowledge rfl (startMessage_of_open ((isOpen_iff s).mpr hopen))
  · have ho := (isOpen_eq_false_iff s).mpr hclosed
    exact ⟨fun hv => leadsTo_of_acknowledge rfl (startMessage_of_valid ho hv),
      fun hv => leadsTo_of_acknowledge rfl (startMessage_of_invalid ho hv)⟩

/-- Settles O13: END in RUN, and in any other state. -/
theorem endClosesTheMessage : Obligations.EndClosesTheMessage :=
  fun _ => ⟨fun hrun => leadsTo_of_acknowledge rfl (endMessage_of_run hrun),
    fun hrun => leadsTo_of_acknowledge rfl (endMessage_of_not_run hrun)⟩

/-- Settles O14: after an ABORT, STATE is IDLE and the message state clear, as a second one leaves them. -/
theorem abortDiscardsTheMessage : Obligations.AbortDiscardsTheMessage := by
  intro s
  refine ⟨rfl, fun t u ht hu => ?_⟩
  cases ht
  cases hu
  rfl

/-! ## The validation of START (40_host_ops.md R132) -/

theorem windowLen_eq (c : ConfigRegs) : c.windowLen = c.sampleRate.toNat / c.baud.toNat := by
  unfold ConfigRegs.windowLen
  split
  · next hbaud => simp [hbaud]
  · rfl

theorem gateMode_eq_reserved_iff (c : ConfigRegs) : c.gateMode = .reserved ↔ c.ctrl.extractLsb' 4 2 = 3 := by
  have hthree : ∀ v : BitVec 2, v = 3 ↔ v.getLsbD 1 = true ∧ v.getLsbD 0 = true := by decide
  rw [hthree, BitVec.getLsbD_extractLsb', BitVec.getLsbD_extractLsb', ConfigRegs.gateMode]
  cases c.ctrl.getLsbD (4 + 1) <;> cases c.ctrl.getLsbD (4 + 0) <;> decide

/-- Settles O12: V1 to V6, clause by clause. -/
theorem validConfigIsV1ToV6 : Obligations.ValidConfigIsV1ToV6 := by
  refine ⟨fun winMax c => ?_, by decide⟩
  simp only [validConfig, Bool.and_eq_true, bne_iff_ne, decide_eq_true_eq, windowLen_eq, ne_eq,
    gateMode_eq_reserved_iff, and_assoc]
  rfl

/-! ## Writes (40_host_ops.md R140–R145) -/

/-- A write of an RWL register, by its lock and its mask. -/
theorem configWrite_masked {i : Instr} {d : Word} {s : State} (r : CfgReg)
    (h : exec i s = acknowledge (writeConfig r d s)) :
    Claims.ConfigWrite i s (s.cfg.set r (d &&& cfgMask r)) := by
  refine ⟨fun hopen => leadsTo_of_acknowledge h ?_, fun hclosed => leadsTo_of_acknowledge h ?_⟩
  · rw [writeConfig, if_pos ((isOpen_iff s).mpr hopen)]
    rfl
  · rw [writeConfig, (isOpen_eq_false_iff s).mpr hclosed, if_neg Bool.false_ne_true]

theorem configWrite_unmasked {i : Instr} {d : Word} {s : State} (r : CfgReg)
    (h : exec i s = acknowledge (writeConfig r d s)) (hmask : cfgMask r = BitVec.allOnes 32) :
    Claims.ConfigWrite i s (s.cfg.set r d) := by
  have hwrite := configWrite_masked r h
  rwa [hmask, BitVec.and_allOnes] at hwrite

/-- Settles O16: three registers have a mask, and fourteen none. -/
theorem configurationWritesAreMaskedAndLocked : Obligations.ConfigurationWritesAreMaskedAndLocked :=
  fun _ _ => ⟨configWrite_masked .ctrl rfl, configWrite_unmasked .sampleRate rfl rfl,
    configWrite_unmasked .baud rfl rfl, configWrite_unmasked .markFreq rfl rfl,
    configWrite_unmasked .spaceFreq rfl rfl, configWrite_unmasked .biasLo rfl rfl,
    configWrite_unmasked .biasHi rfl rfl, configWrite_unmasked .noiseFloorLo rfl rfl,
    configWrite_unmasked .noiseFloorHi rfl rfl, configWrite_unmasked .ampFloorLo rfl rfl,
    configWrite_unmasked .ampFloorHi rfl rfl, configWrite_unmasked .headPat rfl rfl,
    configWrite_unmasked .tailPat rfl rfl, configWrite_masked .syncCfg rfl,
    configWrite_unmasked .headWin rfl rfl, configWrite_unmasked .tailWin rfl rfl, configWrite_masked .escape rfl⟩

/-- Settles O17: the interrupt level is a function of EVENTS and the INT_EN just written. -/
theorem plainWrites : Obligations.PlainWrites := by
  refine fun s d => ⟨rfl, rfl, rfl, fun t ht => ?_⟩
  cases ht
  exact irq_eq_decide _

/-- A sample is not finite exactly where its exponent field is all ones (00_scope.md R14). -/
theorem nonfinite_iff (x : F64) : (isNaN x || isInf x) = true ↔ x.extractLsb' 52 11 = 0x7FF := by
  have hfield : x.extractLsb' 52 11 = 0x7FF ↔ fExp x = 2047 := by rw [← BitVec.toNat_inj]; rfl
  rw [hfield, isNaN, isInf]
  by_cases hfrac : fFrac x = 0 <;> simp [hfrac]

section Push

variable {x : F64} {s : State}

theorem offerSample_of_not_run (h : s.state ≠ .run) : offerSample x s = s.raise .pushErr := by
  rw [offerSample, if_pos h]

theorem offerSample_of_full (h : s.state = .run) (hfull : s.msg.sfifo.length = s.params.sfifoDepth) :
    offerSample x s = s.raise .sampleOvf := by
  rw [offerSample, if_neg (not_not.mpr h), if_pos hfull]

theorem offerSample_of_room (h : s.state = .run) (hroom : s.msg.sfifo.length ≠ s.params.sfifoDepth) :
    offerSample x s = { s with
      events := if x.extractLsb' 52 11 = 0x7FF then s.events ||| eventBit .nonfinite else s.events
      msg := { s.msg with sfifo := s.msg.sfifo ++ [x], sampleCount := s.msg.sampleCount + 1 } } := by
  rw [offerSample, if_neg (not_not.mpr h), if_neg hroom]
  simp only [nonfinite_iff]
  split <;> rfl

end Push

/-- Settles O18: the three cases of a push. -/
theorem pushOffersASample : Obligations.PushOffersASample :=
  fun _ _ => ⟨fun h => leadsTo_of_acknowledge rfl (offerSample_of_not_run h),
    fun h hfull => leadsTo_of_acknowledge rfl (offerSample_of_full h hfull),
    fun h hroom => leadsTo_of_acknowledge rfl (offerSample_of_room h hroom)⟩

theorem getLsbD_intEnMask (i : Nat) : intEnMask.getLsbD i = decide (i < 13) :=
  Nat.testBit_two_pow_sub_one 13 i

theorem getLsbD_clearEvents (d : Word) (s : State) (i : Nat) : (clearEvents d s).events.getLsbD i =
    (s.events.getLsbD i && !(decide (i < 13) && d.getLsbD i)) := by
  rw [clearEvents_events, BitVec.getLsbD_and, BitVec.getLsbD_not, BitVec.getLsbD_and, getLsbD_intEnMask]
  by_cases hi : i < 32
  · rw [decide_eq_true hi, Bool.true_and, Bool.and_comm (d.getLsbD i)]
  · rw [BitVec.getLsbD_of_ge _ _ (Nat.le_of_not_lt hi), Bool.false_and, Bool.false_and]

/-- Settles O19: bit by bit. -/
theorem eventsWriteClearsWrittenOnes : Obligations.EventsWriteClearsWrittenOnes :=
  fun s d => ⟨(clearEvents d s).events, rfl, getLsbD_clearEvents d s⟩

/-! ## The engine, row by row of the table (40_host_ops.md R150) -/

section EngineRows

variable {s : State}

theorem engineStep_consume (ho : s.isOpen = true) (hs : s.msg.sfifo ≠ []) : engineStep s = consumeStep s := by
  rw [engineStep, (enabledStep_iff s .consume).mpr ⟨ho, hs⟩]

theorem engineStep_drain (hfin : s.state = .finish) (hs : s.msg.sfifo = []) (hp : s.msg.fphase = .drain) :
    engineStep s = drainStep s := by
  rw [engineStep, (enabledStep_iff s .drain).mpr ⟨hfin, hs, hp⟩]

theorem engineStep_compute (hfin : s.state = .finish) (hs : s.msg.sfifo = []) (hp : s.msg.fphase = .compute) :
    engineStep s = computeStep s := by
  rw [engineStep, (enabledStep_iff s .compute).mpr ⟨hfin, hs, hp⟩]

theorem engineStep_deliver (hfin : s.state = .finish) (hs : s.msg.sfifo = []) (hp : s.msg.fphase = .deliver)
    (hseq : s.msg.outseq ≠ []) (hroom : s.msg.ofifo.length < s.params.ofifoDepth) :
    engineStep s = deliverStep s := by
  rw [engineStep, (enabledStep_iff s .deliver).mpr ⟨hfin, hs, hp, hseq, hroom⟩]

theorem engineStep_complete (hfin : s.state = .finish) (hs : s.msg.sfifo = []) (hp : s.msg.fphase = .deliver)
    (hseq : s.msg.outseq = []) : engineStep s = completeStep s := by
  rw [engineStep, (enabledStep_iff s .complete).mpr ⟨hfin, hs, hp, hseq⟩]

theorem engineStep_idle (h : enabledStep s = none) : engineStep s = s := by
  rw [engineStep, h]

end EngineRows

/-- Settles O25: row by row; where no row matches, no step is enabled. -/
theorem engineTurnFollowsTheTable : Obligations.EngineTurnFollowsTheTable := by
  intro s hengine u
  have hstep : step s = .next (engineStep u) := by rw [step, hengine]; rfl
  rw [hstep]
  congr 1
  by_cases hconsume : (s.state = .run ∨ s.state = .finish) ∧ s.msg.sfifo ≠ []
  · obtain ⟨hopen, hs⟩ := hconsume
    rw [if_pos ⟨hopen, hs⟩]
    exact engineStep_consume ((isOpen_iff u).mpr hopen) hs
  rw [if_neg hconsume]
  have hempty (hfin : s.state = .finish) : s.msg.sfifo = [] :=
    not_not.mp fun hs => hconsume ⟨.inr hfin, hs⟩
  split_ifs with hdrain hcompute hdeliver hcomplete
  · obtain ⟨hfin, hp, hs⟩ := hdrain
    exact engineStep_drain hfin hs hp
  · obtain ⟨hfin, hp⟩ := hcompute
    exact engineStep_compute hfin (hempty hfin) hp
  · obtain ⟨hfin, hp, hseq, hroom⟩ := hdeliver
    exact engineStep_deliver hfin (hempty hfin) hp hseq hroom
  · obtain ⟨hfin, hp, hseq⟩ := hcomplete
    exact engineStep_complete hfin (hempty hfin) hp hseq
  · refine engineStep_idle (Option.eq_none_iff_forall_ne_some.mpr fun e he => ?_)
    rw [enabledStep_iff, isOpen_iff] at he
    cases e with
    | consume => exact hconsume he
    | drain =>
      obtain ⟨hfin, hs, hp⟩ := he
      exact hdrain ⟨hfin, hp, hs⟩
    | compute =>
      obtain ⟨hfin, -, hp⟩ := he
      exact hcompute ⟨hfin, hp⟩
    | deliver =>
      obtain ⟨hfin, -, hrest⟩ := he
      exact hdeliver ⟨hfin, hrest⟩
    | complete =>
      obtain ⟨hfin, -, hrest⟩ := he
      exact hcomplete ⟨hfin, hrest⟩

theorem consumeStep_cons {s : State} {x : F64} {rest : List F64} (h : s.msg.sfifo = x :: rest) :
    consumeStep s = closeWindow (consumeSample x { s with msg := { s.msg with sfifo := rest } }) := by
  rw [consumeStep, h]

theorem deliverStep_cons {s : State} {e : Word} {rest : List Word} (h : s.msg.outseq = e :: rest) :
    deliverStep s = { s with msg := { s.msg with outseq := rest, ofifo := s.msg.ofifo ++ [e] } } := by
  rw [deliverStep, h]

/-- Settles O26: CONSUME on a queue with a head. -/
theorem consumeTakesOneSample : Obligations.ConsumeTakesOneSample := by
  intro s x rest hopen hs n p
  have hwaiting : s.msg.sfifo ≠ [] := by rw [hs]; exact List.cons_ne_nil x rest
  rw [engineStep_consume ((isOpen_iff s).mpr hopen) hwaiting, consumeStep_cons hs, closeWindow, consumeSample_msg,
    List.length_append, List.length_singleton]
  rfl

/-- Settles O30: DRAIN, DELIVER and COMPLETE, each by its row. -/
theorem drainDeliverAndComplete : Obligations.DrainDeliverAndComplete := by
  refine fun s hfin hs => ⟨fun hp => ?drain, fun hp => ⟨fun e rest hseq hroom => ?deliver, fun hseq => ?complete⟩⟩
  case drain => exact engineStep_drain hfin hs hp
  case deliver =>
    have hleft : s.msg.outseq ≠ [] := by rw [hseq]; exact List.cons_ne_nil e rest
    rw [engineStep_deliver hfin hs hp hleft hroom, deliverStep_cons hseq]
  case complete => exact engineStep_complete hfin hs hp hseq

/-! ## COMPUTE (45_destuffer.md R258) -/

section Phase2

variable {s t : State}

theorem phase2_of_weak (h : flt s.msg.peak s.cfg.ampFloor = true) : phase2 s = emptyOutput (s.raise .weak) := by
  rw [phase2, if_pos h]

theorem phase2_of_no_payload (h : ¬ flt s.msg.peak s.cfg.ampFloor = true) (hsync : sync s = (t, none)) :
    phase2 s = emptyOutput t := by
  rw [phase2, if_neg h, hsync]

theorem phase2_of_payload {ps pe : Nat} (h : ¬ flt s.msg.peak s.cfg.ampFloor = true)
    (hsync : sync s = (t, some (ps, pe))) : phase2 s = decodePayload ps pe t := by
  rw [phase2, if_neg h, hsync]

theorem decodePayload_eq (ps pe : Nat) (s : State) :
    let f := decodeFrames ((s.msg.bits.take pe).drop ps) s.cfg.bitOrder
    let u := unstuff f.bytes s.cfg.escapeByte
    decodePayload ps pe s = { s with
      events := if u.2 then s.events ||| eventBit .truncEsc else s.events
      msg := { s.msg with
        frameCount := BitVec.ofNat 32 f.acc, frameErrCount := BitVec.ofNat 32 f.rej
        outseq := u.1.map outEntry, outTotal := BitVec.ofNat 32 u.1.length } } := by
  dsimp only [decodePayload]
  split <;> rfl

end Phase2

/-- No value without a sign is below +0.0 (10_state.md R41). -/
theorem flt_zero_of_not_fSign {p : F64} (h : fSign p = false) : flt p 0 = false := by
  have hzero : fOrd 0 = 0 := by decide
  have hnonneg : 0 ≤ fOrd p := by rw [fOrd_eq_signed, h, signed_false]; exact Int.natCast_nonneg _
  rw [flt, hzero, decide_eq_false (Int.not_lt.mpr hnonneg), Bool.and_false]

/-- Settles O31: the synchronizer keeps the stream and the configuration, which the framer and the destuffer read. -/
theorem computeRunsPhaseTwo : Obligations.ComputeRunsPhaseTwo := by
  refine ⟨?_, fun p => flt_zero_of_not_fSign⟩
  intro s hfin hp hs ampFloor order escape
  rw [engineStep_compute hfin hs hp, computeStep]
  by_cases hweak : flt s.msg.peak ampFloor = true
  · rw [if_pos hweak, phase2_of_weak hweak]
    rfl
  rw [if_neg hweak]
  obtain ⟨honly, hkeeps⟩ := sync_effect s
  cases hsync : sync s with
  | mk t payload =>
    rw [hsync] at honly hkeeps
    cases payload with
    | none =>
      rw [phase2_of_no_payload hweak hsync]
      rfl
    | some payload =>
      obtain ⟨ps, pe⟩ := payload
      have horder : t.cfg.bitOrder = s.cfg.bitOrder := congrArg ConfigRegs.bitOrder honly.cfg
      have hescape : t.cfg.escapeByte = s.cfg.escapeByte := congrArg ConfigRegs.escapeByte honly.cfg
      have hbits : t.msg.bits = s.msg.bits := congrArg (List.map Symbol.bit) hkeeps.bitbuf
      rw [phase2_of_payload hweak hsync, decodePayload_eq, horder, hescape, hbits]
      rfl

/-! ## What the engine's turns keep -/

/-- The configuration, INT_EN and LO_LATCH are the same, and no event is lost. -/
structure EngineKeeps (s t : State) : Prop where
  cfg : t.cfg = s.cfg
  intEn : t.intEn = s.intEn
  loLatch : t.loLatch = s.loLatch
  events : ∃ e, t.events = s.events ||| e

theorem EngineKeeps.refl (s : State) : EngineKeeps s s := ⟨rfl, rfl, rfl, 0, BitVec.or_zero.symm⟩

theorem EngineKeeps.trans {s t u : State} (h : EngineKeeps s t) (k : EngineKeeps t u) : EngineKeeps s u := by
  obtain ⟨a, ha⟩ := h.events
  obtain ⟨b, hb⟩ := k.events
  exact ⟨k.cfg.trans h.cfg, k.intEn.trans h.intEn, k.loLatch.trans h.loLatch, a ||| b,
    by rw [hb, ha, BitVec.or_assoc]⟩

theorem engineKeeps_engineStep (s : State) : EngineKeeps s (engineStep s) := by
  obtain h | h := engineStep_onlyMessage_or_complete s
  · exact ⟨h.cfg, h.intEn, h.loLatch, h.events⟩
  · rw [h]
    exact ⟨rfl, rfl, rfl, _, rfl⟩

theorem engineKeeps_engineRun (n : Nat) (s : State) : EngineKeeps s (engineRun n s) := by
  induction n generalizing s with
  | zero => exact .refl s
  | succ n ih => exact (engineKeeps_engineStep s).trans (ih (engineStep s))

/-- The two queues of the message and its sub-phase are the same. -/
structure KeepsQueues (m n : Message) : Prop where
  sfifo : n.sfifo = m.sfifo
  ofifo : n.ofifo = m.ofifo
  fphase : n.fphase = m.fphase

theorem KeepsQueues.windowComplete {m : Message} {s : State} (h : KeepsQueues m s.msg) (w : List F64) :
    KeepsQueues m (windowComplete w s).msg := by
  have hkeeps := (windowComplete_effect w s).keeps
  exact ⟨hkeeps.sfifo.trans h.sfifo, hkeeps.ofifo.trans h.ofifo, hkeeps.fphase.trans h.fphase⟩

theorem keepsQueues_consumeStep {s : State} {x : F64} {rest : List F64} (h : s.msg.sfifo = x :: rest) :
    KeepsQueues { s.msg with sfifo := rest } (consumeStep s).msg := by
  rw [consumeStep_cons h, closeWindow]
  split
  · refine KeepsQueues.windowComplete ?_ _
    exact ⟨rfl, rfl, rfl⟩
  · exact ⟨rfl, rfl, rfl⟩

theorem keepsQueues_drainStep (s : State) : KeepsQueues { s.msg with fphase := .compute } (drainStep s).msg := by
  unfold drainStep
  dsimp only
  split
  · refine KeepsQueues.windowComplete ?_ _
    exact ⟨rfl, rfl, rfl⟩
  · exact ⟨rfl, rfl, rfl⟩

theorem keepsQueues_computeStep (s : State) :
    KeepsQueues { s.msg with fphase := .deliver } (computeStep s).msg := by
  have hkeeps := (phase2_effect s).2
  exact ⟨hkeeps.sfifo, hkeeps.ofifo, rfl⟩

theorem keepsQueues_deliverStep {s : State} {e : Word} {rest : List Word} (h : s.msg.outseq = e :: rest) :
    KeepsQueues { s.msg with ofifo := s.msg.ofifo ++ [e] } (deliverStep s).msg := by
  rw [deliverStep_cons h]
  exact ⟨rfl, rfl, rfl⟩

/-! ## FINISH ends in DONE or in the hold (70_reset_and_hazards.md R315) -/

/-- A bound on the engine's turns from a sub-phase of FINISH on, with `room` places in OFIFO. -/
def phaseTurns (room : Nat) : FPhase → Nat
  | .drain => room + 3
  | .compute => room + 2
  | .deliver => room + 1

theorem phaseTurns_pos (room : Nat) (p : FPhase) : 0 < phaseTurns room p := by
  cases p <;> exact Nat.succ_pos _

theorem phaseTurns_le (room : Nat) (p : FPhase) : phaseTurns room p ≤ room + 3 := by
  cases p <;> simp [phaseTurns]

/-- A bound on the engine's turns until DONE or the hold, in FINISH: one for each waiting sample, one for each place
in OFIFO, and one each for DRAIN, COMPUTE and COMPLETE. -/
def turnsLeft (depth : Nat) (m : Message) : Nat := m.sfifo.length + phaseTurns (depth - m.ofifo.length) m.fphase

theorem turnsLeft_pos (depth : Nat) (m : Message) : 0 < turnsLeft depth m :=
  Nat.add_pos_right _ (phaseTurns_pos _ _)

theorem turnsLeft_le (depth : Nat) (m : Message) : turnsLeft depth m ≤ m.sfifo.length + depth + 3 := by
  have hphase := phaseTurns_le (depth - m.ofifo.length) m.fphase
  unfold turnsLeft
  omega

/-- FINISH, with OFIFO within its capacity. -/
structure Finishing (s : State) : Prop where
  state : s.state = .finish
  fits : s.msg.ofifo.length ≤ s.params.ofifoDepth

/-- The message is delivered and DONE raised, or the engine waits for room in OFIFO. -/
def Ended (s : State) : Prop := (s.state = .done ∧ s.events.getLsbD 0 = true) ∨ Claims.Held s

theorem getLsbD_or_eventBit (v : Word) (e : Event) : (v ||| eventBit e).getLsbD (eventCode e) = true := by
  rw [BitVec.getLsbD_or]
  cases e <;> simp [eventBit, eventCode]

theorem ended_completeStep (s : State) : Ended (completeStep s) :=
  .inl ⟨rfl, getLsbD_or_eventBit s.events .done⟩

/-- In FINISH the engine has nothing to do only while it is held. -/
theorem Finishing.held {s : State} (h : Finishing s) (hidle : enabledStep s = none) : Claims.Held s := by
  obtain ⟨hfin, hfits⟩ := h
  have hnot (e : EngineStep) : ¬ enabledStep s = some e := by rw [hidle]; exact nofun
  have hs : s.msg.sfifo = [] :=
    not_not.mp fun hs => hnot .consume ((enabledStep_iff s .consume).mpr ⟨(isOpen_iff s).mpr (.inr hfin), hs⟩)
  have hp : s.msg.fphase = .deliver := by
    cases hp : s.msg.fphase with
    | drain => exact absurd ((enabledStep_iff s .drain).mpr ⟨hfin, hs, hp⟩) (hnot _)
    | compute => exact absurd ((enabledStep_iff s .compute).mpr ⟨hfin, hs, hp⟩) (hnot _)
    | deliver => rfl
  have hseq : s.msg.outseq ≠ [] := fun hseq =>
    hnot .complete ((enabledStep_iff s .complete).mpr ⟨hfin, hs, hp, hseq⟩)
  have hfull : ¬ s.msg.ofifo.length < s.params.ofifoDepth := fun hroom =>
    hnot .deliver ((enabledStep_iff s .deliver).mpr ⟨hfin, hs, hp, hseq, hroom⟩)
  exact ⟨hfin, hp, hs, hseq, hfits.antisymm (Nat.le_of_not_lt hfull)⟩

/-- The state goes on finishing, with fewer turns left. -/
def Progresses (s t : State) : Prop :=
  Finishing t ∧ turnsLeft t.params.ofifoDepth t.msg < turnsLeft s.params.ofifoDepth s.msg

/-- Progress is read off the queues and the sub-phase of a message `m`. -/
theorem Finishing.progresses {s t : State} {m : Message} (h : Finishing s) (honly : OnlyMessage s t)
    (hkeeps : KeepsQueues m t.msg) (hfits : m.ofifo.length ≤ s.params.ofifoDepth)
    (hless : turnsLeft s.params.ofifoDepth m < turnsLeft s.params.ofifoDepth s.msg) : Progresses s t := by
  obtain ⟨hsfifo, hofifo, hp⟩ := hkeeps
  refine ⟨⟨honly.state.trans h.state, ?_⟩, ?_⟩
  · rwa [honly.params, hofifo]
  · rwa [turnsLeft, honly.params, hsfifo, hofifo, hp]

/-- A turn of the engine in FINISH ends the message or uses up one of the turns left, unless the engine is held. -/
theorem Finishing.engineTurn {s : State} (h : Finishing s) :
    Claims.Held s ∨ Ended (engineStep s) ∨ Progresses s (engineStep s) := by
  rcases engineStep_cases s with ⟨he, e⟩ | ⟨he, e⟩ | ⟨he, e⟩ | ⟨he, e⟩ | ⟨he, e⟩ | ⟨he, e⟩ <;> rw [e]
  · obtain ⟨-, hs⟩ := (enabledStep_iff s .consume).mp he
    obtain ⟨x, rest, hs⟩ := List.exists_cons_of_ne_nil hs
    refine .inr (.inr (h.progresses (consumeStep_onlyMessage s) (keepsQueues_consumeStep hs) h.fits ?_))
    rw [turnsLeft, turnsLeft, hs]
    exact Nat.add_lt_add_right (Nat.lt_succ_self rest.length) _
  · obtain ⟨-, -, hp⟩ := (enabledStep_iff s .drain).mp he
    refine .inr (.inr (h.progresses (drainStep_onlyMessage s) (keepsQueues_drainStep s) h.fits ?_))
    rw [turnsLeft, turnsLeft, hp]
    exact Nat.lt_succ_self _
  · obtain ⟨-, -, hp⟩ := (enabledStep_iff s .compute).mp he
    refine .inr (.inr (h.progresses (computeStep_onlyMessage s) (keepsQueues_computeStep s) h.fits ?_))
    rw [turnsLeft, turnsLeft, hp]
    exact Nat.lt_succ_self _
  · obtain ⟨-, -, hp, hseq, hroom⟩ := (enabledStep_iff s .deliver).mp he
    obtain ⟨x, rest, hseq⟩ := List.exists_cons_of_ne_nil hseq
    have hlength : (s.msg.ofifo ++ [x]).length = s.msg.ofifo.length + 1 := List.length_append
    refine .inr (.inr (h.progresses (deliverStep_onlyMessage s) (keepsQueues_deliverStep hseq) ?_ ?_))
    · rw [hlength]
      exact hroom
    · simp only [turnsLeft, hp, hlength, phaseTurns]
      omega
  · exact .inr (.inl (ended_completeStep s))
  · exact .inl (h.held he)

/-- By induction on the bound. -/
theorem Finishing.exists_ended (n : Nat) {s : State} (h : Finishing s)
    (hn : turnsLeft s.params.ofifoDepth s.msg ≤ n) : ∃ k ≤ n, Ended (engineRun k s) := by
  induction n generalizing s with
  | zero => exact absurd hn (Nat.not_le_of_lt (turnsLeft_pos _ _))
  | succ n ih =>
    rcases h.engineTurn with hheld | hended | ⟨hfin, hless⟩
    · exact ⟨0, Nat.zero_le _, .inr hheld⟩
    · exact ⟨1, Nat.succ_le_succ (Nat.zero_le n), hended⟩
    · obtain ⟨k, hk, hended⟩ := ih hfin (Nat.le_of_lt_succ (hless.trans_le hn))
      exact ⟨k + 1, Nat.succ_le_succ hk, hended⟩

theorem and_or_absorb (v e : Word) : v &&& (v ||| e) = v := by
  ext i
  rw [BitVec.getElem_and, BitVec.getElem_or]
  cases v[i] <;> rfl

/-- Settles O33: the turns left are bounded, and the engine's turns keep the rest. -/
theorem finishEndsInDoneOrHold : Obligations.FinishEndsInDoneOrHold := by
  intro s hfin hfits
  obtain ⟨n, hn, hended⟩ := Finishing.exists_ended _ ⟨hfin, hfits⟩ (turnsLeft_le s.params.ofifoDepth s.msg)
  obtain ⟨hcfg, hintEn, hloLatch, e, hevents⟩ := engineKeeps_engineRun n s
  exact ⟨n, hn, hended, hcfg, hintEn, hloLatch, by rw [hevents, and_or_absorb]⟩

/-! ## What changes STATE (40_host_ops.md R137) -/

/-- The changes of STATE, by the action performed. -/
inductive StateChange (s : State) (a : Action) (t : State) : Prop where
  | start : a = .access .cmdStart → s.isOpen = false → validConfig s.params.winMax s.cfg = true → t.state = .run →
      StateChange s a t
  | startInvalid : a = .access .cmdStart → s.isOpen = false → validConfig s.params.winMax s.cfg = false →
      t.state = .error → t.events.getLsbD 1 = true → StateChange s a t
  | finish : a = .access .cmdEnd → s.state = .run → t.state = .finish → t.msg.fphase = .drain → StateChange s a t
  | discard : a = .access .cmdAbort ∨ a = .access .cmdSoftReset ∨ a = .resetLine → t.state = .idle →
      StateChange s a t
  | complete : a = .engine .complete → s.state = .finish → t.state = .done → t.events.getLsbD 0 = true →
      StateChange s a t

theorem writeConfig_state (r : CfgReg) (d : Word) (s : State) : (writeConfig r d s).state = s.state := by
  rcases writeConfig_spec r d s with ⟨-, e⟩ | ⟨-, e⟩
  · rw [e, raise_state]
  · rw [e]

theorem offerSample_state (x : F64) (s : State) : (offerSample x s).state = s.state := by
  rcases offerSample_spec x s with ⟨-, e⟩ | ⟨-, -, e⟩ | ⟨-, -, _, -, e⟩
  · rw [e, raise_state]
  · rw [e, raise_state]
  · rw [e]

/-- What START, END, ABORT and SOFT_RESET make of STATE; every other instruction leaves it. -/
theorem exec_stateChange (i : Instr) (s : State) :
    ∃ t, exec i s = .next t ∧ (t.state = s.state ∨ StateChange s (.access i) t) := by
  cases i
  all_goals refine ⟨_, rfl, ?_⟩
  case cmdStart =>
    rcases startMessage_spec s with ⟨-, e⟩ | ⟨hclosed, hvalid, e⟩ | ⟨hclosed, hinvalid, e⟩ <;> rw [e]
    · exact .inl rfl
    · exact .inr (.start rfl hclosed hvalid rfl)
    · exact .inr (.startInvalid rfl hclosed hinvalid rfl (getLsbD_or_eventBit s.events .cfgErr))
  case cmdEnd =>
    rcases endMessage_spec s with ⟨hrun, e⟩ | ⟨-, e⟩ <;> rw [e]
    · exact .inr (.finish rfl hrun rfl rfl)
    · exact .inl rfl
  case cmdAbort => exact .inr (.discard (.inl rfl) rfl)
  case cmdSoftReset => exact .inr (.discard (.inr (.inl rfl)) rfl)
  case wrSampleHi => exact .inl (offerSample_state _ s)
  all_goals first
    | exact .inl rfl
    | exact .inl (writeConfig_state _ _ s)

/-- COMPLETE is the one engine step that changes STATE (40_host_ops.md R156). -/
theorem engineStep_stateChange {s : State} {e : EngineStep} (he : enabledStep s = some e) :
    (engineStep s).state = s.state ∨ StateChange s (.engine e) (engineStep s) := by
  cases e with
  | complete =>
    obtain ⟨hfin, hs, hp, hseq⟩ := (enabledStep_iff s .complete).mp he
    rw [engineStep_complete hfin hs hp hseq]
    exact .inr (.complete rfl hfin rfl (getLsbD_or_eventBit s.events .done))
  | consume => exact .inl (by rw [engineStep, he]; exact (consumeStep_onlyMessage s).state)
  | drain => exact .inl (by rw [engineStep, he]; exact (drainStep_onlyMessage s).state)
  | compute => exact .inl (by rw [engineStep, he]; exact (computeStep_onlyMessage s).state)
  | deliver => exact .inl (by rw [engineStep, he]; exact (deliverStep_onlyMessage s).state)

theorem Performs.stateChange {s t : State} {a : Action} (h : Performs s a t) :
    t.state = s.state ∨ StateChange s a t := by
  cases h with
  | engine e he => exact engineStep_stateChange he
  | access i _ hexec =>
    obtain ⟨u, hu, hchange⟩ := exec_stateChange i s
    cases hu.symm.trans hexec
    exact hchange
  | resetLine => exact .inr (.discard (.inr (.inr rfl)) rfl)
  | nothing => exact .inl rfl

/-- Settles O53: each performance changes STATE as `StateChange` says, if at all. -/
theorem stateChangesOnlyAsTheCommandsSay : Obligations.StateChangesOnlyAsTheCommandsSay := by
  intro s t h hne
  obtain ⟨s', t', hs, hp, ht⟩ := step_performs h
  obtain hsame | hchange := hp.stateChange
  · exact absurd (ht.state.trans (hsame.trans hs.state)) hne
  rw [← hs.state, ← hs.params, ← hs.cfg, ht.state, ht.events, ht.msg]
  cases hchange with
  | start ha hclosed hvalid hrun =>
    exact .inl ⟨ha, (isOpen_eq_false_iff s').mp hclosed, .inl ⟨hvalid, hrun⟩⟩
  | startInvalid ha hclosed hinvalid herror hevent =>
    exact .inl ⟨ha, (isOpen_eq_false_iff s').mp hclosed, .inr ⟨hinvalid, herror, hevent⟩⟩
  | finish ha hrun hfin hphase => exact .inr (.inl ⟨ha, hrun, hfin, hphase⟩)
  | discard ha hidle => exact .inr (.inr (.inl ⟨ha, hidle⟩))
  | complete ha hfin hdone hevent => exact .inr (.inr (.inr ⟨ha, hfin, hdone, hevent⟩))

end Sys2Proof.Machine

/-! # Proofs: the tone-energy estimator (41_tone_energy.md)

The bin index, the Goertzel recurrence with its NaNs, and the coefficient. Where twice the cosine is no binary64
number, the fixed-point series is taken at the number whose square is the argument's rounded square: each further
term then loses at most a unit of 2^-256, and the errors of pi and of the series stay below 2^-60 together, which
leaves the one rounding, of at most 2^-53. -/

namespace Sys2Proof.Machine

/-! ## The bin index (41_tone_energy.md R171) -/

/-- Settles O37: the remainder of `len·f` by `fs` says on which side of the half it lies. -/
theorem binIndexIsNearestEven : Obligations.BinIndexIsNearestEven := by
  intro len f fs hfs
  have hdiv := Nat.div_add_mod' (len * f) fs
  have hmod := Nat.mod_lt (len * f) hfs
  have hround : (binIndex len f fs * fs = len * f / fs * fs ∧ 2 * (len * f % fs) ≤ fs ∨
        binIndex len f fs * fs = len * f / fs * fs + fs ∧ fs ≤ 2 * (len * f % fs)) ∧
      (2 * (len * f % fs) = fs → binIndex len f fs % 2 = 0) := by
    unfold binIndex
    dsimp only
    have hnext : (len * f / fs + 1) * fs = len * f / fs * fs + fs := Nat.succ_mul ..
    split_ifs <;> omega
  rw [← Nat.cast_mul, ← Nat.cast_mul]
  generalize binIndex len f fs * fs = nearest at hround ⊢
  generalize len * f / fs * fs = low at hdiv hround
  omega

/-! ## The recurrence (41_tone_energy.md R174) -/

/-- The recurrence over the list is the loop over the index of the sample. -/
theorem goertzelLoop_eq_foldl (draw : Nat → F64) (c : F64) (w : List F64) (n : Nat) (s1 s2 : F64) :
    goertzelLoop draw c w n s1 s2 = (List.range w.length).foldl (fun (s : F64 × F64) i =>
      (fsub (draw (3 * (n + i) + 2))
        (fadd (draw (3 * (n + i) + 1)) (w.getD i 0) (fmul (draw (3 * (n + i))) c s.1)) s.2, s.1)) (s1, s2) := by
  induction w generalizing n s1 s2 with
  | nil => rfl
  | cons x w ih =>
    rw [goertzelLoop, ih, List.length_cons, List.range_succ_eq_map, List.foldl_cons, List.foldl_map]
    simp only [Nat.add_zero, List.getD_cons_zero, List.getD_cons_succ, Nat.succ_eq_add_one, Nat.add_assoc,
      Nat.add_comm 1]

theorem goertzel_eq_goertzelWritten (draw : Nat → F64) (w : List F64) (c : F64) :
    goertzel draw w c = Claims.goertzelWritten draw w c := by
  cases w with
  | nil => rfl
  | cons x rest =>
    rw [Claims.goertzelWritten, if_neg (by simp), goertzel, goertzelLoop_eq_foldl]
    simp only [Nat.zero_add]
    rfl

/-- A NaN state, or a NaN sample to come, leaves a NaN state: each new state is a sum with the sample and with a
product of the last state. -/
theorem isNaN_goertzelLoop {draw : Nat → F64} {c : F64} {w : List F64} {n : Nat} {s1 s2 : F64}
    (h : isNaN s1 = true ∨ ∃ x ∈ w, isNaN x = true) : isNaN (goertzelLoop draw c w n s1 s2).1 = true := by
  induction w generalizing n s1 s2 with
  | nil => simpa [goertzelLoop] using h
  | cons x w ih =>
    refine ih ?_
    rw [List.exists_mem_cons_iff, ← or_assoc] at h
    exact h.imp_left fun h => isNaN_fsub (.inl (isNaN_fadd (h.symm.imp_right fun h => isNaN_fmul (.inr h))))

theorem isNaN_goertzelPower {draw : Nat → F64} {c : F64} {n : Nat} {s1 s2 : F64} (h : isNaN s1 = true) :
    isNaN (goertzelPower draw c n s1 s2) = true :=
  isNaN_fsub (.inl (isNaN_fadd (.inr (isNaN_fmul (.inl h)))))

theorem isNaN_goertzel {draw : Nat → F64} {w : List F64} {c : F64} (h : ∃ x ∈ w, isNaN x = true) :
    isNaN (goertzel draw w c) = true := by
  cases w with
  | nil => simp at h
  | cons x rest => exact isNaN_goertzelPower (isNaN_goertzelLoop (.inr h))

theorem gated_of_isNaN {c : ConfigRegs} {pm ps : F64} (h : isNaN pm = true ∨ isNaN ps = true) :
    gated c pm ps = false := by
  have hflt : (flt pm c.noiseFloor && flt ps c.noiseFloor) = false := by
    obtain h | h := h <;> simp [flt_of_isNaN (.inl h)]
  unfold gated
  split
  · rfl
  all_goals exact hflt

/-- Settles O29: the recurrence over the list and over the index agree, and a NaN state stays a NaN to the end. -/
theorem naNSampleMakesThePowerNaN : Obligations.NaNSampleMakesThePowerNaN :=
  ⟨goertzel_eq_goertzelWritten,
    fun choice fs f w => ⟨Config.nanDraw w f fs, by cases choice <;> exact goertzel_eq_goertzelWritten ..⟩,
    fun _ _ _ _ => isNaN_goertzel, fun _ _ _ => gated_of_isNaN, fun _ _ _ => rfl⟩

/-! ## The coefficient where it is exact (41_tone_energy.md R172) -/

/-- Settles O38: where one of the fractions is met, no earlier test of `defaultCoeff` holds. -/
theorem coefficientIsExactWhereItCanBe : Obligations.CoefficientIsExactWhereItCanBe := by
  intro k len hlen
  unfold defaultCoeff
  dsimp only
  generalize k % len = t
  refine ⟨fun h => ?_, fun h => ?_, fun h => ?_, fun h => ?_, fun h => ?_⟩
  · rw [if_pos h]; rfl
  · rw [if_neg (by omega), if_pos h]; rfl
  · rw [if_neg (by omega), if_neg (by omega), if_pos h]; rfl
  · rw [if_neg (by omega), if_neg (by omega), if_neg (by omega), if_pos h]; rfl
  · rw [if_neg (by omega), if_neg (by omega), if_neg (by omega), if_neg (by omega), if_pos h]; rfl

/-! ## The fixed-point cosine (log 5) -/

/-- The first `n` terms of the cosine series from degree `m` on, the first of them positive. -/
noncomputable def cosPartial (n m : Nat) (y : ℝ) : ℝ :=
  ∑ j ∈ Finset.range n, (-1) ^ j * (y ^ (m + 2 * j) / (m + 2 * j).factorial)

theorem cosPartial_zero (m : Nat) (y : ℝ) : cosPartial 0 m y = 0 := Finset.sum_range_zero _

/-- The recursion of `cosTail`, on the exact terms. -/
theorem cosPartial_succ (n m : Nat) (y : ℝ) :
    cosPartial (n + 1) m y = y ^ m / m.factorial - cosPartial n (m + 2) y := by
  rw [cosPartial, Finset.sum_range_succ', cosPartial, sub_eq_neg_add, ← Finset.sum_neg_distrib]
  congr 1
  · refine Finset.sum_congr rfl fun j _ => ?_
    rw [pow_succ, show m + 2 * (j + 1) = m + 2 + 2 * j by ring]
    ring
  · simp

/-- The cosine series is the real part of the exponential series at `y·i`. -/
theorem cosPartial_eq_re (n : Nat) (y : ℝ) : cosPartial n 0 y =
    (∑ j ∈ Finset.range (2 * n), (y * Complex.I) ^ j / (j.factorial : ℂ)).re := by
  induction n with
  | zero => simp [cosPartial_zero]
  | succ n ih =>
    have heven : (y * Complex.I) ^ (2 * n) / ((2 * n).factorial : ℂ) =
        (((-1) ^ n * (y ^ (2 * n) / (2 * n).factorial) : ℝ) : ℂ) := by
      rw [mul_pow, pow_mul Complex.I, Complex.I_sq]
      push_cast
      ring
    have hodd : (y * Complex.I) ^ (2 * n + 1) / ((2 * n + 1).factorial : ℂ) =
        ((((-1) ^ n * (y ^ (2 * n + 1) / (2 * n + 1).factorial) : ℝ)) : ℂ) * Complex.I := by
      rw [mul_pow, pow_succ Complex.I, pow_mul Complex.I, Complex.I_sq]
      push_cast
      ring
    rw [cosPartial, Finset.sum_range_succ, ← cosPartial, ih, Nat.mul_succ, Finset.sum_range_succ,
      Finset.sum_range_succ, heven, hodd, Complex.add_re, Complex.add_re, Complex.ofReal_re,
      Complex.re_ofReal_mul, Complex.I_re, mul_zero, add_zero, Nat.zero_add]

theorem abs_cosPartial_sub_cos_le {n : Nat} {y : ℝ} (hy : |y| / (2 * n + 1) ≤ 1 / 2) :
    |cosPartial n 0 y - Real.cos y| ≤ |y| ^ (2 * n) / (2 * n).factorial * 2 := by
  have hnorm : ‖(y * Complex.I : ℂ)‖ = |y| := by simp
  have hexp := Complex.exp_bound' (x := y * Complex.I) (n := 2 * n) (by rw [hnorm]; push_cast; exact hy)
  rw [abs_sub_comm, cosPartial_eq_re, ← Complex.exp_ofReal_mul_I_re, ← Complex.sub_re]
  rw [hnorm] at hexp
  exact (Complex.abs_re_le_norm _).trans hexp

theorem abs_natDiv_sub_div_le (a b : Nat) : |((a / b : Nat) : ℝ) - (a : ℝ) / b| ≤ 1 := by
  rw [← Nat.floor_div_eq_div (K := ℝ), abs_sub_comm, abs_le]
  have hle := Nat.floor_le (a := (a : ℝ) / b) (by positivity)
  have hlt := Nat.lt_floor_add_one ((a : ℝ) / b)
  constructor <;> linarith

/-- The fixed-point number `t` is the term of degree `m` of the cosine series at `y`, up to `e` units of 2^-256. -/
def IsTerm (y : ℝ) (m t : Nat) (e : ℝ) : Prop := |(t : ℝ) - 2 ^ 256 * (y ^ m / m.factorial)| ≤ e

/-- The next term: the error grows no more than the term (`hle`), and the division loses at most a unit. -/
theorem IsTerm.next {x2 : Nat} {y : ℝ} (hy : y ^ 2 * 2 ^ 256 = x2) {m t : Nat} {e : ℝ} (h : IsTerm y m t e)
    (hle : e * y ^ 2 ≤ e * ((m + 1) * (m + 2))) :
    IsTerm y (m + 2) (t * x2 / (2 ^ 256 * ((m + 1) * (m + 2)))) (e + 1) := by
  have hpos : (0 : ℝ) < (m + 1) * (m + 2) := by positivity
  have hexact : ((t * x2 : Nat) : ℝ) / (2 ^ 256 * ((m + 1) * (m + 2)) : Nat) =
      t * (y ^ 2 / ((m + 1) * (m + 2))) := by
    push_cast
    rw [← hy]
    field_simp
    norm_num
  have hfloor := hexact ▸ abs_natDiv_sub_div_le (t * x2) (2 ^ 256 * ((m + 1) * (m + 2)))
  have hscaled : |t * (y ^ 2 / ((m + 1) * (m + 2))) - 2 ^ 256 * (y ^ (m + 2) / (m + 2).factorial)| ≤ e := by
    have hfactor : t * (y ^ 2 / ((m + 1) * (m + 2))) - 2 ^ 256 * (y ^ (m + 2) / (m + 2).factorial) =
        (t - 2 ^ 256 * (y ^ m / m.factorial)) * (y ^ 2 / ((m + 1) * (m + 2))) := by
      rw [Nat.factorial_succ, Nat.factorial_succ]
      push_cast
      field_simp
      ring
    rw [hfactor, abs_mul, abs_of_nonneg (a := y ^ 2 / _) (by positivity), ← mul_div_assoc,
      div_le_iff₀ hpos]
    exact (mul_le_mul_of_nonneg_right h (sq_nonneg y)).trans hle
  rw [IsTerm, add_comm e]
  exact (abs_sub_le _ _ _).trans (add_le_add hfloor hscaled)

theorem cosTail_le (n x2 m t : Nat) : cosTail n x2 m t ≤ t := by
  cases n with
  | zero => exact t.zero_le
  | succ n => exact t.sub_le _

/-- From degree 1 on the terms do not grow, so that no difference of `cosTail` falls below 0. -/
theorem abs_cosTail_sub_cosPartial_le {x2 : Nat} {y : ℝ} (hy : y ^ 2 * 2 ^ 256 = x2) (hy4 : y ^ 2 ≤ 4)
    (n : Nat) {m t : Nat} (hm : 1 ≤ m) {e : ℝ} (he : 0 ≤ e) (ht : IsTerm y m t e) :
    |(cosTail n x2 m t : ℝ) - 2 ^ 256 * cosPartial n m y| ≤ n * (e + n) := by
  induction n generalizing m t e with
  | zero => simp [cosTail, cosPartial_zero]
  | succ n ih =>
    have hm1 : (1 : ℝ) ≤ m := by exact_mod_cast hm
    have hgrow : y ^ 2 ≤ (m + 1) * (m + 2) := by nlinarith
    have hnext := ih (by omega) (by linarith) (ht.next hy (mul_le_mul_of_nonneg_left hgrow he))
    have hsub : t * x2 / (2 ^ 256 * ((m + 1) * (m + 2))) ≤ t := by
      refine Nat.div_le_of_le_mul ?_
      rw [mul_comm t]
      refine Nat.mul_le_mul_right t ?_
      exact_mod_cast (by rw [← hy]; nlinarith : (x2 : ℝ) ≤ 2 ^ 256 * ((m + 1) * (m + 2)))
    rw [cosTail, Nat.cast_sub ((cosTail_le ..).trans hsub), cosPartial_succ]
    rw [IsTerm, abs_le] at ht
    rw [abs_le] at hnext ⊢
    push_cast
    constructor <;> nlinarith

theorem cosFixed_le (x : Nat) : cosFixed x ≤ 2 ^ 256 := cosTail_le ..

theorem isTerm_zero (y : ℝ) : IsTerm y 0 (2 ^ 256) 0 := by norm_num [IsTerm]

theorem abs_cosPartial_40_sub_cos_le {y : ℝ} (hy0 : 0 ≤ y) (hy2 : y ≤ 2) :
    |cosPartial 40 0 y - Real.cos y| ≤ 1 / 2 ^ 70 := by
  have hbound := abs_cosPartial_sub_cos_le (n := 40) (y := y) (by rw [abs_of_nonneg hy0]; norm_num; linarith)
  refine hbound.trans ?_
  rw [abs_of_nonneg hy0]
  calc y ^ (2 * 40) / (2 * 40).factorial * 2 ≤ 2 ^ (2 * 40) / (2 * 40).factorial * 2 := by gcongr
    _ ≤ 1 / 2 ^ 70 := by norm_num [Nat.factorial]

/-- `cosFixed` is one minus a tail that, together with the first term, is near the cosine. -/
theorem exists_cosFixed_eq_sub {x : Nat} {y : ℝ} (hy0 : 0 ≤ y) (hy : y ^ 2 * 2 ^ 256 = (x * x / 2 ^ 256 : Nat))
    (hy2 : y ≤ 2) : ∃ c, cosFixed x = 2 ^ 256 - c ∧ |1 - c / 2 ^ 256 - Real.cos y| ≤ 1 / 2 ^ 69 := by
  refine ⟨_, rfl, ?_⟩
  have htail := abs_cosTail_sub_cosPartial_le hy (by nlinarith) 39 (by decide) (by norm_num)
    ((isTerm_zero y).next hy (by simp))
  have hseries := abs_cosPartial_40_sub_cos_le hy0 hy2
  rw [cosPartial_succ 39 0, pow_zero, Nat.factorial_zero] at hseries
  generalize cosTail 39 _ _ _ = c at htail ⊢
  generalize cosPartial 39 _ y = p at htail hseries
  rw [abs_le] at htail hseries ⊢
  push_cast at htail hseries
  constructor <;> linarith

/-- A difference cut off at 0 is as near to a number that is not negative. -/
theorem abs_natSub_div_sub_le {a : Nat} (ha : 0 < a) (b : Nat) {r : ℝ} (hr : 0 ≤ r) :
    |((a - b : Nat) : ℝ) / a - r| ≤ |1 - (b : ℝ) / a - r| := by
  have hapos : (0 : ℝ) < a := by exact_mod_cast ha
  obtain h | h := Nat.le_total b a
  · rw [Nat.cast_sub h, sub_div, div_self hapos.ne']
  · have hover : 1 ≤ (b : ℝ) / a := by rw [one_le_div hapos]; exact_mod_cast h
    rw [Nat.sub_eq_zero_of_le h, Nat.cast_zero, zero_div, zero_sub, abs_neg, abs_of_nonneg hr,
      abs_of_nonpos (by linarith)]
    linarith

/-- A square root in fixed point: the square of `x` rounded down is the square of a number not 2^-128 below. -/
theorem exists_sqrt_fixed (x : Nat) : ∃ y : ℝ, 0 ≤ y ∧ y ^ 2 * 2 ^ 256 = (x * x / 2 ^ 256 : Nat) ∧
    y ≤ x / 2 ^ 256 ∧ x / 2 ^ 256 ≤ y + 1 / 2 ^ 128 := by
  have hlow : ((x * x / 2 ^ 256 : Nat) : ℝ) / 2 ^ 256 ≤ (x / 2 ^ 256) ^ 2 := by
    have : ((x * x / 2 ^ 256 : Nat) : ℝ) * 2 ^ 256 ≤ x * x := by exact_mod_cast Nat.div_mul_le_self ..
    rw [div_pow, div_le_div_iff₀ (by positivity) (by positivity)]
    linarith
  have hhigh : ((x : ℝ) / 2 ^ 256) ^ 2 ≤ (x * x / 2 ^ 256 : Nat) / 2 ^ 256 + 1 / 2 ^ 256 := by
    have : (x * x : ℝ) ≤ 2 ^ 256 * ((x * x / 2 ^ 256 : Nat) + 1) := by
      exact_mod_cast (Nat.lt_mul_div_succ (x * x) (by decide)).le
    rw [div_pow, ← add_div, div_le_div_iff₀ (by positivity) (by positivity)]
    linarith
  have hsq := Real.sq_sqrt (x := (x * x / 2 ^ 256 : Nat) / 2 ^ 256) (by positivity)
  have hpos := Real.sqrt_nonneg ((x * x / 2 ^ 256 : Nat) / 2 ^ 256)
  refine ⟨_, hpos, by rw [hsq]; field_simp, abs_le_of_sq_le_sq' (hsq.trans_le hlow) (by positivity) |>.2, ?_⟩
  refine le_of_sq_le_sq (hhigh.trans ?_) (by positivity)
  rw [add_sq, hsq]
  norm_num
  positivity

/-- The argument of `cosFixed` may be off by 2^-65. -/
theorem abs_cosFixed_sub_cos_le {x : Nat} {θ : ℝ} (hx : x ≤ 2 * 2 ^ 256)
    (hθ : |(x : ℝ) / 2 ^ 256 - θ| ≤ 1 / 2 ^ 65) (hcos : 0 ≤ Real.cos θ) :
    |(cosFixed x : ℝ) / 2 ^ 256 - Real.cos θ| ≤ 1 / 2 ^ 60 := by
  obtain ⟨y, hy0, hsq, hlow, hhigh⟩ := exists_sqrt_fixed x
  have hx2 : (x : ℝ) / 2 ^ 256 ≤ 2 := by
    rw [div_le_iff₀ (by positivity)]
    exact_mod_cast hx
  obtain ⟨c, hc, hnear⟩ := exists_cosFixed_eq_sub hy0 hsq (hlow.trans hx2)
  have hcut := abs_natSub_div_sub_le (a := 2 ^ 256) (by decide) c hcos
  rw [Nat.cast_pow, Nat.cast_ofNat, ← hc] at hcut
  have harg : |y - θ| ≤ 1 / 2 ^ 128 + 1 / 2 ^ 65 :=
    (abs_sub_le y (x / 2 ^ 256) θ).trans (add_le_add (abs_le.mpr ⟨by linarith, by linarith⟩) hθ)
  calc |(cosFixed x : ℝ) / 2 ^ 256 - Real.cos θ|
      ≤ |1 - c / 2 ^ 256 - Real.cos θ| := hcut
    _ ≤ |1 - c / 2 ^ 256 - Real.cos y| + |Real.cos y - Real.cos θ| := abs_sub_le ..
    _ ≤ 1 / 2 ^ 69 + (1 / 2 ^ 128 + 1 / 2 ^ 65) := add_le_add hnear ((Real.abs_cos_sub_cos_le y θ).trans harg)
    _ ≤ 1 / 2 ^ 60 := by norm_num

/-- The digits of `piFixed` against the twenty that Mathlib proves. -/
theorem abs_piFixed_sub_pi_le : |(piFixed : ℝ) / 2 ^ 256 - Real.pi| ≤ 1 / 2 ^ 66 := by
  have hlow := Real.pi_gt_d20
  have hhigh := Real.pi_lt_d20
  rw [piFixed, Nat.cast_ofNat, abs_le]
  constructor <;> linarith

/-- The argument that `defaultCoeff` gives `cosFixed`, in the first quadrant. -/
theorem abs_cosFixed_piFixed_sub_cos_le {b len : Nat} (hlen : 1 ≤ len) (hb : 2 * b ≤ len) :
    |(cosFixed (piFixed * b / len) : ℝ) / 2 ^ 256 - Real.cos (Real.pi * b / len)| ≤ 1 / 2 ^ 60 := by
  have hlenpos : (0 : ℝ) < len := by exact_mod_cast hlen
  have hfrac0 : 0 ≤ (b : ℝ) / len := by positivity
  have hfrac : (b : ℝ) / len ≤ 1 / 2 := by
    rw [div_le_div_iff₀ hlenpos two_pos]
    exact_mod_cast (by omega : b * 2 ≤ 1 * len)
  refine abs_cosFixed_sub_cos_le ?_ ?_ ?_
  · refine Nat.div_le_of_le_mul ?_
    have : piFixed ≤ 2 * (2 * 2 ^ 256) := by decide
    nlinarith
  · have hfloor := abs_natDiv_sub_div_le (piFixed * b) len
    have hscaled : |(piFixed / 2 ^ 256 - Real.pi) * (b / len)| ≤ 1 / 2 ^ 66 * (1 / 2) := by
      rw [abs_mul, abs_of_nonneg hfrac0]
      gcongr
      exact abs_piFixed_sub_pi_le
    rw [Nat.cast_mul, mul_div_assoc, abs_le] at hfloor
    rw [abs_le] at hscaled
    rw [mul_div_assoc, abs_le]
    constructor <;> linarith
  · rw [mul_div_assoc]
    have := Real.pi_pos
    exact Real.cos_nonneg_of_mem_Icc ⟨by nlinarith, by nlinarith⟩

/-! ## The rounding of the coefficient -/

/-- A number up to 2^(53+e) is rounded by at most half of 2^e. -/
theorem RoundsBetween.two_mul_natAbs_sub_le {n B R e : Nat} (h : RoundsBetween n 0 B R) (hn : n ≤ 2 ^ 53 * 2 ^ e) :
    2 * ((bodyMag R : Int) - n).natAbs ≤ 2 ^ e := by
  obtain ⟨hlow, hhigh, hR, -⟩ := h
  obtain ⟨d, q, rfl, hq, hnormal⟩ := exists_significand B
  have hnext : bodyMag (d * 2 ^ 52 + q + 1) = bodyMag (d * 2 ^ 52 + q) + 2 ^ d := by
    rw [Nat.add_assoc, bodyMag_add hq.le hnormal, bodyMag_add hq (by omega), Nat.succ_mul]
  rw [pow_zero, mul_one] at hlow hhigh hR
  have hgap : 2 ^ d ≤ 2 ^ e ∨ n ≤ bodyMag (d * 2 ^ 52 + q) := by
    obtain hd | hd := Nat.lt_or_ge e d |>.symm
    · exact .inl (Nat.pow_le_pow_right two_pos hd)
    · right
      calc n ≤ 2 ^ 52 * 2 ^ (e + 1) := hn.trans_eq (by ring)
        _ ≤ q * 2 ^ d := Nat.mul_le_mul (by omega) (Nat.pow_le_pow_right two_pos hd)
        _ = bodyMag (d * 2 ^ 52 + q) := (bodyMag_add hq.le hnormal).symm
  rw [hnext] at hhigh hR
  obtain ⟨rfl, hside⟩ | ⟨rfl, hside⟩ := hR
  · omega
  · rw [hnext]
    omega

theorem fPack_roundMag_near {n e : Nat} (hn : n ≤ 2 ^ 53 * 2 ^ e) (he : e ≤ 2044) (sign : Bool) :
    Claims.Finite (fPack sign (roundMag n 0)) ∧
      2 * (fVal (fPack sign (roundMag n 0)) - signed sign n).natAbs ≤ 2 ^ e := by
  obtain ⟨B, R, hround, hbetween⟩ := roundMag_spec n 0
  have hfin : R < infBody := by
    rw [hbetween.lt_infBody_iff]
    calc n ≤ 2 ^ 53 * 2 ^ e := hn
      _ ≤ 2 ^ 53 * 2 ^ (2044 + 0) := by gcongr; omega
      _ < (2 ^ 54 - 1) * 2 ^ (2044 + 0) := by gcongr; decide
  have h63 : R < 2 ^ 63 := hfin.trans (by decide)
  rw [hround, min_eq_left hfin.le, finite_iff, fBody_fPack sign h63, fVal_fPack sign h63]
  refine ⟨hfin, ?_⟩
  have hnear := hbetween.two_mul_natAbs_sub_le hn
  cases sign with
  | false => exact hnear
  | true => rwa [signed_true, signed_true, neg_sub_neg, ← Int.natAbs_neg, neg_sub]

theorem signed_cast (sign : Bool) (n : Nat) : (signed sign n : ℝ) = if sign then -(n : ℝ) else n := by
  cases sign <;> simp

/-- Twice a fixed-point cosine, rounded with a sign, is within 2^-53 of it. -/
theorem fPack_cosFixed_near (x : Nat) (sign : Bool) :
    let v := fPack sign (roundMag (2 * cosFixed x * 2 ^ 818) 0)
    let c := (cosFixed x : ℝ) / 2 ^ 256
    Claims.Finite v ∧ |(fVal v : ℝ) / 2 ^ 1074 - 2 * (if sign then -c else c)| ≤ 1 / 2 ^ 53 := by
  intro v c
  have hle : 2 * cosFixed x * 2 ^ 818 ≤ 2 ^ 53 * 2 ^ 1022 := by
    calc 2 * cosFixed x * 2 ^ 818 ≤ 2 * 2 ^ 256 * 2 ^ 818 := by gcongr; exact cosFixed_le x
      _ = 2 ^ 53 * 2 ^ 1022 := by rw [← pow_succ', ← pow_add, ← pow_add]
  obtain ⟨hfin, hnear⟩ := fPack_roundMag_near hle (by decide) sign
  refine ⟨hfin, ?_⟩
  have hunits : ((2 * cosFixed x * 2 ^ 818 : Nat) : ℝ) / 2 ^ 1074 = 2 * c := by
    rw [show (2 : ℝ) ^ 1074 = 2 ^ 256 * 2 ^ 818 by rw [← pow_add], Nat.cast_mul, Nat.cast_mul, Nat.cast_pow,
      Nat.cast_ofNat, mul_div_mul_right _ _ (by positivity), mul_div_assoc]
  have hdiff : (fVal v : ℝ) / 2 ^ 1074 - 2 * (if sign then -c else c) =
      ((fVal v - signed sign (2 * cosFixed x * 2 ^ 818) : Int) : ℝ) / 2 ^ 1074 := by
    rw [Int.cast_sub, signed_cast, sub_div]
    cases sign with
    | false => exact congrArg _ hunits.symm
    | true => rw [if_pos rfl, if_pos rfl, neg_div, hunits, mul_neg]
  rw [hdiff, abs_div, ← Int.cast_abs, ← Nat.cast_natAbs, abs_of_pos (by positivity)]
  have hreal : (2 * (fVal v - signed sign (2 * cosFixed x * 2 ^ 818)).natAbs : ℝ) ≤ 2 ^ 1022 := by
    exact_mod_cast hnear
  rw [show (2 : ℝ) ^ 1074 = 2 ^ 1022 * 2 ^ 52 by rw [← pow_add], div_le_div_iff₀ (by positivity) (by positivity)]
  generalize (2 : ℝ) ^ 1022 = half at hreal ⊢
  linarith

/-! ## The symmetries of the cosine -/

/-- The bin of the window's first half with the same cosine. -/
def halfBin (t len : Nat) : Nat := if 2 * t > len then len - t else t

/-- Twice the distance of the bin `a` from 0 or from half of the window, whichever is nearer. -/
def quarterBin (a len : Nat) : Nat := if 4 * a > len then len - 2 * a else 2 * a

theorem two_mul_halfBin_le (k : Nat) {len : Nat} (hlen : 1 ≤ len) : 2 * halfBin (k % len) len ≤ len := by
  have := Nat.mod_lt k hlen
  unfold halfBin
  split <;> omega

theorem cos_halfBin (k : Nat) {len : Nat} (hlen : 1 ≤ len) :
    Real.cos (2 * Real.pi * k / len) = Real.cos (2 * Real.pi * halfBin (k % len) len / len) := by
  have hlenpos : (len : ℝ) ≠ 0 := by exact_mod_cast Nat.ne_of_gt hlen
  have hmod : Real.cos (2 * Real.pi * k / len) = Real.cos (2 * Real.pi * (k % len : Nat) / len) := by
    rw [← Real.cos_add_nat_mul_two_pi (2 * Real.pi * (k % len : Nat) / len) (k / len)]
    congr 1
    have : (k : ℝ) = len * (k / len : Nat) + (k % len : Nat) := by exact_mod_cast (Nat.div_add_mod k len).symm
    rw [this]
    field_simp
    ring
  rw [hmod, halfBin]
  split
  · rw [Nat.cast_sub (Nat.mod_lt k hlen).le, ← Real.cos_two_pi_sub]
    congr 1
    field_simp
  · rfl

theorem two_mul_quarterBin_le {a len : Nat} : 2 * quarterBin a len ≤ len := by
  unfold quarterBin
  split <;> omega

theorem cos_quarterBin {a len : Nat} (hlen : 1 ≤ len) (ha : 2 * a ≤ len) :
    Real.cos (2 * Real.pi * a / len) = if 4 * a > len then -Real.cos (Real.pi * quarterBin a len / len)
      else Real.cos (Real.pi * quarterBin a len / len) := by
  have hlenpos : (len : ℝ) ≠ 0 := by exact_mod_cast Nat.ne_of_gt hlen
  unfold quarterBin
  split
  · rw [← Real.cos_pi_sub, Nat.cast_sub ha]
    congr 1
    push_cast
    field_simp
    ring
  · congr 1
    push_cast
    ring

/-- A bin at the `c`-th part of the window, from either end, folds to the `c`-th part. -/
theorem mul_halfBin_eq {c t len : Nat} (hc : 2 ≤ c) (h : c * t = len ∨ c * t + len = c * len) :
    c * halfBin t len = len := by
  unfold halfBin
  split
  next hupper =>
    rw [Nat.mul_sub]
    obtain h | h := h
    · nlinarith
    · omega
  next hlower =>
    obtain h | h := h
    · exact h
    · nlinarith

theorem cos_of_fraction {k len c : Nat} (hlen : 1 ≤ len) (hc : 2 ≤ c)
    (h : c * (k % len) = len ∨ c * (k % len) + len = c * len) :
    Real.cos (2 * Real.pi * k / len) = Real.cos (2 * Real.pi / c) := by
  have hlenpos : (0 : ℝ) < len := by exact_mod_cast hlen
  have hfold : (c : ℝ) * halfBin (k % len) len = len := by exact_mod_cast mul_halfBin_eq hc h
  rw [cos_halfBin k hlen]
  congr 1
  rw [div_eq_div_iff (by positivity) (by positivity), ← hfold]
  ring

/-! ## The coefficient near the cosine (41_tone_energy.md R172) -/

/-- The encoding `v` is a finite number within 2^-52 of twice the cosine of `x`. -/
def IsNearTwiceCos (v : F64) (x : ℝ) : Prop :=
  Claims.Finite v ∧ |(fVal v : ℝ) / 2 ^ 1074 - 2 * Real.cos x| ≤ 1 / 2 ^ 52

theorem isNearTwiceCos_of_eq {v : F64} {z : Int} {x : ℝ} (hfin : Claims.Finite v) (hv : fVal v = z * 2 ^ 1074)
    (hx : 2 * Real.cos x = z) : IsNearTwiceCos v x := by
  refine ⟨hfin, ?_⟩
  rw [hv, hx, Int.cast_mul, Int.cast_pow, Int.cast_ofNat, mul_div_cancel_right₀ _ (by positivity), sub_self, abs_zero]
  positivity

/-- The coefficient at the bins where the cosine is no binary64 number, from the folded bins. -/
theorem defaultCoeff_of_inexact {k len : Nat} (h0 : k % len ≠ 0)
    (h6 : ¬ (6 * (k % len) = len ∨ 6 * (k % len) = 5 * len))
    (h4 : ¬ (4 * (k % len) = len ∨ 4 * (k % len) = 3 * len))
    (h3 : ¬ (3 * (k % len) = len ∨ 3 * (k % len) = 2 * len)) (h2 : 2 * (k % len) ≠ len) :
    let a := halfBin (k % len) len
    defaultCoeff k len =
      fPack (decide (4 * a > len)) (roundMag (2 * cosFixed (piFixed * quarterBin a len / len) * 2 ^ 818) 0) := by
  unfold defaultCoeff halfBin quarterBin
  dsimp only
  rw [if_neg h0, if_neg h6, if_neg h4, if_neg h3, if_neg h2]
  simp only [decide_eq_true_eq]

theorem isNearTwiceCos_of_inexact {k len : Nat} (hlen : 1 ≤ len) {a : Nat} (ha : halfBin (k % len) len = a)
    (h : defaultCoeff k len = fPack (decide (4 * a > len))
      (roundMag (2 * cosFixed (piFixed * quarterBin a len / len) * 2 ^ 818) 0)) :
    IsNearTwiceCos (defaultCoeff k len) (2 * Real.pi * k / len) := by
  have hcos := abs_cosFixed_piFixed_sub_cos_le hlen (two_mul_quarterBin_le (a := a))
  obtain ⟨hfin, hround⟩ := fPack_cosFixed_near (piFixed * quarterBin a len / len) (decide (4 * a > len))
  rw [h, IsNearTwiceCos, cos_halfBin k hlen, ha, cos_quarterBin hlen (ha ▸ two_mul_halfBin_le k hlen)]
  refine ⟨hfin, ?_⟩
  simp only [decide_eq_true_eq] at hround
  generalize (fVal _ : ℝ) / 2 ^ 1074 = v at hround ⊢
  have hsum : (1 : ℝ) / 2 ^ 53 + 2 * (1 / 2 ^ 60) ≤ 1 / 2 ^ 52 := by norm_num
  rw [abs_le] at hcos hround ⊢
  split_ifs at hround ⊢ <;> constructor <;> linarith

theorem isNearTwiceCos_of_fraction {v : F64} {z : Int} {k len c : Nat} {x : ℝ} (hlen : 1 ≤ len) (hc : 2 ≤ c)
    (h : c * (k % len) = len ∨ c * (k % len) + len = c * len) (hfin : Claims.Finite v)
    (hv : fVal v = z * 2 ^ 1074) (hx : 2 * Real.pi / c = x) (hcos : 2 * Real.cos x = z) :
    IsNearTwiceCos v (2 * Real.pi * k / len) :=
  isNearTwiceCos_of_eq hfin hv (by rw [cos_of_fraction hlen hc h, hx, hcos])

/-- Settles O39: the exact bins by their cosines, the others by the fixed-point cosine and one rounding. -/
theorem coefficientIsNearTheCosine : Obligations.CoefficientIsNearTheCosine := by
  intro k len hlen _
  change IsNearTwiceCos (defaultCoeff k len) (2 * Real.pi * k / len)
  obtain ⟨htwo, hone, hzero, hnegOne, hnegTwo⟩ := coefficientIsExactWhereItCanBe k len hlen
  by_cases h0 : k % len = 0
  · rw [htwo h0]
    refine isNearTwiceCos_of_eq (z := 2) ⟨by decide, by decide⟩ (by decide +kernel) ?_
    rw [cos_halfBin k hlen, h0]
    simp [halfBin]
  by_cases h6 : 6 * (k % len) = len ∨ 6 * (k % len) = 5 * len
  · rw [hone h6]
    exact isNearTwiceCos_of_fraction (z := 1) (c := 6) (x := Real.pi / 3) hlen (by decide) (by omega)
      ⟨by decide, by decide⟩ (by decide +kernel) (by push_cast; ring) (by norm_num)
  by_cases h4 : 4 * (k % len) = len ∨ 4 * (k % len) = 3 * len
  · rw [hzero h4]
    exact isNearTwiceCos_of_fraction (z := 0) (c := 4) (x := Real.pi / 2) hlen (by decide) (by omega)
      ⟨by decide, by decide⟩ (by decide +kernel) (by push_cast; ring) (by norm_num)
  by_cases h3 : 3 * (k % len) = len ∨ 3 * (k % len) = 2 * len
  · rw [hnegOne h3]
    exact isNearTwiceCos_of_fraction (z := -1) (c := 3) (x := Real.pi - Real.pi / 3) hlen (by decide) (by omega)
      ⟨by decide, by decide⟩ (by decide +kernel) (by push_cast; ring) (by norm_num [Real.cos_pi_sub])
  by_cases h2 : 2 * (k % len) = len
  · rw [hnegTwo h2]
    exact isNearTwiceCos_of_fraction (z := -2) (c := 2) (x := Real.pi) hlen (by decide) (.inl h2)
      ⟨by decide, by decide⟩ (by decide +kernel) (by push_cast; ring) (by norm_num)
  exact isNearTwiceCos_of_inexact hlen rfl (defaultCoeff_of_inexact h0 h6 h4 h3 h2)

end Sys2Proof.Machine

/-! # Proofs: the symbol slicer (42_symbol_slicer.md)

A comparison sees of a product only its number: which NaN was drawn makes no difference, and the product with 1.0 is
the operand itself, since a magnitude that is a body's own is rounded to that body. -/

namespace Sys2Proof.Machine

/-! ## The product in a comparison (00_scope.md R14, log 3) -/

/-- Two products of the same operands differ at most in which NaN they are. -/
theorem fmul_eq_or_isNaN (nan nan' a b : F64) :
    fmul nan a b = fmul nan' a b ∨ isNaN (fmul nan a b) = true ∧ isNaN (fmul nan' a b) = true := by
  unfold fmul
  dsimp only
  split_ifs <;> simp

/-- No comparison sees which NaN a product is. -/
theorem fgt_fmul_draw (nan nan' x a b : F64) : fgt x (fmul nan a b) = fgt x (fmul nan' a b) := by
  obtain h | ⟨h, h'⟩ := fmul_eq_or_isNaN nan nan' a b
  · rw [h]
  · rw [fgt, fgt, flt_of_isNaN (.inl h), flt_of_isNaN (.inl h')]

/-! ## The product with 1.0 -/

theorem fPack_fSign_fBody (a : F64) : fPack (fSign a) (fBody a) = a := by
  refine BitVec.eq_of_toNat_eq ?_
  rw [fPack_toNat _ _ (fBody_lt a), fSign_eq, fBody_eq]
  have := a.isLt
  split_ifs with h <;> rw [decide_eq_true_eq] at h <;> omega

/-- A magnitude that is that of a body is rounded to this body. -/
theorem roundMag_bodyMag {b : Nat} (hb : b < infBody) (u : Nat) : roundMag (bodyMag b * 2 ^ u) u = b := by
  obtain ⟨B, R, hround, hlow, hhigh, hR, -⟩ := roundMag_spec (bodyMag b * 2 ^ u) u
  have hpos : 0 < 2 ^ u := Nat.two_pow_pos u
  have hle : B ≤ b := bodyMag_strictMono.le_iff_le.mp (Nat.le_of_mul_le_mul_right hlow hpos)
  have hlt : b < B + 1 := bodyMag_strictMono.lt_iff_lt.mp (Nat.lt_of_mul_lt_mul_right hhigh)
  obtain rfl : B = b := by omega
  have hRB : R = B := by omega
  rw [hround, hRB, min_eq_left hb.le]

/-- The encoding of 1.0. -/
def fOne : F64 := 0x3FF0000000000000

theorem finite_fOne : Claims.Finite fOne := ⟨by decide, by decide⟩

theorem fMag_fOne : fMag fOne = 2 ^ 1074 := by decide +kernel

theorem fVal_fOne_ne_zero : fVal fOne ≠ 0 := by decide +kernel

/-- A finite value or an infinity times 1.0 is itself. -/
theorem fmul_fOne (nan : F64) {a : F64} (ha : isNaN a = false) : fmul nan a fOne = a := by
  have hsign : (fSign a != fSign fOne) = fSign a := by
    rw [show fSign fOne = false by decide, Bool.bne_false]
  by_cases hinf : isInf a = true
  · rw [fmul_of_isInf_left nan hinf finite_fOne.1 (.inr fVal_fOne_ne_zero), hsign, ← (isInf_iff a).mp hinf,
      fPack_fSign_fBody]
  · have hfin : Claims.Finite a := ⟨ha, Bool.eq_false_iff.mpr hinf⟩
    rw [fmul_of_finite nan hfin finite_fOne, hsign, fMag_fOne, fMag_eq_bodyMag,
      roundMag_bodyMag ((finite_iff a).mp hfin), fPack_fSign_fBody]

/-! ## The comparator (42_symbol_slicer.md R192) -/

/-- The comparator by the bit of SLICE_MODE, whatever NaN is drawn. -/
theorem slice_eq (c : ConfigRegs) (pm ps nan : F64) :
    slice c pm ps = if c.ctrl.getLsbD 2 then !fgt ps (fmul nan pm c.bias) else fgt pm (fmul nan ps c.bias) := by
  unfold slice ConfigRegs.sliceMode biased
  cases c.ctrl.getLsbD 2 with
  | false => exact fgt_fmul_draw ..
  | true => exact congrArg (!·) (fgt_fmul_draw ..)

theorem slice_of_unit_bias {c : ConfigRegs} {pm ps : F64} (hbias : c.bias = fOne) (hpm : isNaN pm = false)
    (hps : isNaN ps = false) : slice c pm ps = if c.ctrl.getLsbD 2 then !flt pm ps else flt ps pm := by
  rw [slice_eq c pm ps 0, hbias, fmul_fOne 0 hpm, fmul_fOne 0 hps, fgt, fgt]

/-- A NaN power, scaled or not, makes the comparison false, so that the mode alone decides. -/
theorem slice_of_isNaN {c : ConfigRegs} {pm ps : F64} (h : isNaN pm = true ∨ isNaN ps = true) :
    slice c pm ps = c.ctrl.getLsbD 2 := by
  have hnever {x y : F64} (h : isNaN x = true ∨ isNaN y = true) : fgt x (fmul 0 y c.bias) = false :=
    flt_of_isNaN (h.symm.imp_left fun hy => isNaN_fmul (.inl hy))
  rw [slice_eq c pm ps 0, hnever h, hnever h.symm]
  cases c.ctrl.getLsbD 2 <;> rfl

/-- Settles O28: the drawn NaN is not seen, 1.0 leaves a power as it is, and a NaN makes every comparison false. -/
theorem comparatorOnNaNsTiesAndUnitBias : Obligations.ComparatorOnNaNsTiesAndUnitBias := by
  refine ⟨slice_eq, fun c pm ps hhi hlo => slice_of_unit_bias ?_, fun _ _ _ => slice_of_isNaN⟩
  rw [ConfigRegs.bias, hhi, hlo]
  rfl

/-! ## Gating and the symbol (42_symbol_slicer.md R191, R194, R195) -/

/-- The encoding of GATE_MODE (10_state.md R32). -/
def gateCode : GateMode → BitVec 2
  | .none => 0 | .drop => 1 | .unknown => 2 | .reserved => 3

theorem gateCode_gateMode (c : ConfigRegs) : gateCode c.gateMode = c.ctrl.extractLsb' 4 2 := by
  have hbits : ∀ v : BitVec 2, v = BitVec.ofBool (v.getLsbD 1) ++ BitVec.ofBool (v.getLsbD 0) := by decide
  rw [hbits (c.ctrl.extractLsb' 4 2), BitVec.getLsbD_extractLsb', BitVec.getLsbD_extractLsb', ConfigRegs.gateMode]
  cases c.ctrl.getLsbD (4 + 1) <;> cases c.ctrl.getLsbD (4 + 0) <;> decide

theorem gated_eq (c : ConfigRegs) (pm ps : F64) :
    gated c pm ps = (gateCode c.gateMode != 0 && flt pm c.noiseFloor && flt ps c.noiseFloor) := by
  unfold gated
  cases c.gateMode <;> rfl

theorem storeSymbol_eq (bit unk : Bool) (s : State) :
    storeSymbol bit unk s =
      if s.msg.bitbuf.length < s.params.bitbufDepth then
        { s with msg := { s.msg with bitbuf := s.msg.bitbuf ++ [⟨bit, unk⟩] } }
      else { s with
        events := s.events ||| eventBit .bitbufOvf
        msg := { s.msg with bitlostCount := s.msg.bitlostCount + 1 } } := rfl

/-- The symbol's gated mark is that of its window in every mode. -/
theorem appendSymbol_eq (bit g : Bool) (s : State) :
    appendSymbol bit g s =
      if g = true ∧ gateCode s.cfg.gateMode = 1 then
        { s with msg := { s.msg with dropCount := s.msg.dropCount + 1 } }
      else storeSymbol bit g (if g = true ∧ gateCode s.cfg.gateMode = 2 then
        { s with msg := { s.msg with unkCount := s.msg.unkCount + 1 } } else s) := by
  unfold appendSymbol
  cases g with
  | false => rfl
  | true => cases s.cfg.gateMode <;> rfl

/-- Settles O27: the window's powers gated and compared, then the symbol appended. -/
theorem windowBecomesASymbol : Obligations.WindowBecomesASymbol := by
  intro s w nan pm ps mode floor bias g raw bit u
  have hmode : gateCode s.cfg.gateMode = mode := gateCode_gateMode s.cfg
  have hg : gated s.cfg pm ps = g := by rw [gated_eq, hmode]; rfl
  have hbit : (slice s.cfg pm ps ^^ s.cfg.polarity) = bit := by rw [slice_eq s.cfg pm ps nan]; rfl
  calc windowComplete w s = appendSymbol (slice s.cfg pm ps ^^ s.cfg.polarity) (gated s.cfg pm ps) u := rfl
    _ = appendSymbol bit g u := by rw [hg, hbit]
    _ = _ := by
      rw [appendSymbol_eq, storeSymbol_eq, show gateCode u.cfg.gateMode = mode from hmode]
      by_cases hunk : g = true ∧ mode = 2
      · simp only [if_pos hunk]; rfl
      · simp only [if_neg hunk]; rfl

end Sys2Proof.Machine

/-! # Proofs: the frame synchronizer (43_frame_sync.md)

The scan of `locate` is summed up by `BestMatch`: a round keeps it for one more position, and at most one answer
meets it, so `locate` gives an answer exactly where the answer is the best match. The synchronizer is then said
once for each row of the policy table. -/

namespace Sys2Proof.Machine

/-! ## Candidate positions (43_frame_sync.md R211) -/

theorem mem_candidates {n m w p : Nat} : p ∈ candidates n m w ↔ p + m ≤ n ∧ (w = 0 ∨ p < w) := by
  rw [candidates, List.mem_filter, List.mem_range, Bool.or_eq_true, beq_iff_eq, decide_eq_true_eq]
  exact and_congr_left' (by omega)

theorem candidates_pairwise_lt (n m w : Nat) : (candidates n m w).Pairwise (· < ·) :=
  List.pairwise_lt_range.filter _

/-- Settles O40: the searches are `locate` at the fields that the configuration's accessors name. -/
theorem markersAndCandidatePositions : Obligations.MarkersAndCandidatePositions := by
  refine ⟨fun pat m _ _ => ⟨markerBits_length pat m, fun j hj => ?_⟩, fun c b => ⟨rfl, rfl⟩,
    fun n m w => ⟨fun p => mem_candidates, candidates_pairwise_lt n m w⟩⟩
  rw [markerBits, List.getElem?_map, List.getElem?_range hj, Option.map_some]

/-! ## The Hamming distance (43_frame_sync.md R212) -/

/-- Where the marker fits, the pairs that are compared are those of the written sum. -/
theorem zip_drop_eq_map {b m : List Bool} {p : Nat} (h : p + m.length ≤ b.length) :
    (b.drop p).zip m = (List.range m.length).map fun j => (b.getD (p + j) false, m.getD j false) := by
  refine List.ext_getElem ?_ fun j hj _ => ?_
  · simp
    omega
  · have hm : j < m.length := hj.trans_le (by simp)
    have hb : p + j < b.length := by omega
    simp [hm, hb]

theorem hamming_eq_length_filter {b m : List Bool} {p : Nat} (h : p + m.length ≤ b.length) :
    hamming b m p =
      ((List.range m.length).filter fun j => b.getD (p + j) false != m.getD j false).length := by
  rw [hamming, zip_drop_eq_map h, List.countP_map, List.countP_eq_length_filter]
  rfl

/-- Settles O41: the compared pairs are those of the marker's indices. -/
theorem hammingCountsTheDifferences : Obligations.HammingCountsTheDifferences :=
  fun b m p h => ⟨hamming_eq_length_filter h, hamming_le b m p⟩

/-- A marker does not differ from the stream where it stands. -/
theorem hamming_append (pre m post : List Bool) : hamming (pre ++ m ++ post) m pre.length = 0 := by
  have hsame (j : Nat) (hj : j < m.length) :
      (pre ++ m ++ post).getD (pre.length + j) false = m.getD j false := by
    rw [List.getD_eq_getElem?_getD, List.getD_eq_getElem?_getD, List.append_assoc,
      List.getElem?_append_right (Nat.le_add_right _ _), Nat.add_sub_cancel_left, List.getElem?_append_left hj]
  rw [hamming_eq_length_filter (by simp), List.length_eq_zero_iff, List.filter_eq_nil_iff]
  intro j hj
  rw [hsame j (List.mem_range.mp hj), bne_self_eq_false]
  exact Bool.false_ne_true

/-! ## The best match (43_frame_sync.md R213) -/

/-- The answer that `locate` owes for the positions `ps`: the least distance within the tolerance, at the earliest
position that has it, and none where no distance is within the tolerance. -/
def BestMatch (b m : List Bool) (e : Nat) (ps : List Nat) : Option (Nat × Nat) → Prop
  | none => ∀ q ∈ ps, e < hamming b m q
  | some (p, d) => p ∈ ps ∧ d = hamming b m p ∧ d ≤ e ∧
      ∀ q ∈ ps, (q < p → d < hamming b m q) ∧ (p < q → d ≤ hamming b m q)

section BestMatch

variable {b m : List Bool} {e : Nat} {ps : List Nat}

/-- A round of the scan extends the best match by a later position. -/
theorem BestMatch.snoc {best : Option (Nat × Nat)} {p : Nat} (h : BestMatch b m e ps best)
    (hlater : ∀ q ∈ ps, q < p) : BestMatch b m e (ps ++ [p]) (betterMatch b m e best p) := by
  have hlast : p ∈ ps ++ [p] := List.mem_append_right ps (List.mem_singleton_self p)
  cases best with
  | none =>
    by_cases hd : hamming b m p ≤ e
    · rw [betterMatch, if_pos hd]
      refine ⟨hlast, rfl, hd, List.forall_mem_append.mpr ⟨fun q hq => ?_, by simp⟩⟩
      exact ⟨fun _ => hd.trans_lt (h q hq), fun hpq => absurd hpq (hlater q hq).asymm⟩
    · rw [betterMatch, if_neg hd]
      exact List.forall_mem_append.mpr ⟨h, by simpa using hd⟩
  | some x =>
    obtain ⟨p₀, d₀⟩ := x
    obtain ⟨hmem, hd₀, hle, hbest⟩ := h
    have hleast (q : Nat) (hq : q ∈ ps) : d₀ ≤ hamming b m q := by
      obtain ⟨hbefore, hafter⟩ := hbest q hq
      rcases Nat.lt_trichotomy q p₀ with hlt | rfl | hgt
      · exact (hbefore hlt).le
      · exact hd₀.le
      · exact hafter hgt
    by_cases hd : hamming b m p ≤ e ∧ hamming b m p < d₀
    · rw [betterMatch, if_pos hd]
      refine ⟨hlast, rfl, hd.1, List.forall_mem_append.mpr ⟨fun q hq => ?_, by simp⟩⟩
      exact ⟨fun _ => hd.2.trans_le (hleast q hq), fun hpq => absurd hpq (hlater q hq).asymm⟩
    · rw [betterMatch, if_neg hd]
      have hp : d₀ ≤ hamming b m p := by omega
      refine ⟨List.mem_append_left _ hmem, hd₀, hle, List.forall_mem_append.mpr ⟨hbest, ?_⟩⟩
      exact List.forall_mem_singleton.mpr ⟨fun hpp => absurd hpp (hlater p₀ hmem).asymm, fun _ => hp⟩

theorem bestMatch_foldl (h : ps.Pairwise (· < ·)) : BestMatch b m e ps (ps.foldl (betterMatch b m e) none) := by
  induction ps using List.reverseRecOn with
  | nil => exact List.forall_mem_nil _
  | append_singleton ps p ih =>
    obtain ⟨hps, -, hlater⟩ := List.pairwise_append.mp h
    rw [List.foldl_append]
    exact (ih hps).snoc fun q hq => hlater q hq p (List.mem_singleton_self p)

/-- A best match has no position later than another best match. -/
theorem BestMatch.le_of_some {p p' d d' : Nat} (h : BestMatch b m e ps (some (p, d)))
    (h' : BestMatch b m e ps (some (p', d'))) : p ≤ p' := by
  obtain ⟨hmem, hd, -, hbest⟩ := h
  obtain ⟨hmem', hd', -, hbest'⟩ := h'
  by_contra hlt
  have hmore := (hbest p' hmem').1 (by omega)
  have hless := (hbest' p hmem).2 (by omega)
  omega

theorem BestMatch.not_none_some {x : Nat × Nat} (h : BestMatch b m e ps none) : ¬ BestMatch b m e ps (some x) := by
  obtain ⟨p, d⟩ := x
  rintro ⟨hmem, rfl, hle, -⟩
  exact absurd hle (Nat.not_le_of_lt (h p hmem))

theorem BestMatch.unique {r r' : Option (Nat × Nat)} (h : BestMatch b m e ps r) (h' : BestMatch b m e ps r') :
    r = r' := by
  cases r with
  | none =>
    cases r' with
    | none => rfl
    | some x => exact absurd h' h.not_none_some
  | some x =>
    cases r' with
    | none => exact absurd h h'.not_none_some
    | some x' =>
      obtain ⟨p, d⟩ := x
      obtain ⟨p', d'⟩ := x'
      obtain rfl : p = p' := (h.le_of_some h').antisymm (h'.le_of_some h)
      obtain ⟨-, rfl, -⟩ := h
      obtain ⟨-, rfl, -⟩ := h'
      rfl

end BestMatch

theorem locate_eq_iff {b m : List Bool} {e w : Nat} {r : Option (Nat × Nat)} :
    locate b m e w = r ↔ BestMatch b m e (candidates b.length m.length w) r := by
  have hlocate : BestMatch b m e (candidates b.length m.length w) (locate b m e w) :=
    bestMatch_foldl (candidates_pairwise_lt _ _ _)
  exact ⟨fun h => h ▸ hlocate, hlocate.unique⟩

/-- Settles O42: `locate` gives the best match, and nothing else is one. -/
theorem locateFindsTheEarliestBestMatch : Obligations.LocateFindsTheEarliestBestMatch :=
  fun _ _ _ _ => ⟨fun _ _ => locate_eq_iff, locate_eq_iff⟩

/-- `locate` gives the first exact match, at every tolerance. -/
theorem locate_of_exact {b m : List Bool} {w p : Nat} (e : Nat) (hp : p ∈ candidates b.length m.length w)
    (hexact : hamming b m p = 0) (hfirst : ∀ q < p, hamming b m q ≠ 0) : locate b m e w = some (p, 0) :=
  locate_eq_iff.mpr ⟨hp, hexact.symm, Nat.zero_le e, fun q _ =>
    ⟨fun hq => Nat.pos_of_ne_zero (hfirst q hq), fun _ => Nat.zero_le _⟩⟩

/-- The distance that `locate` gives is within the tolerance. -/
theorem locate_le_tolerance {b m : List Bool} {e w p d : Nat} (h : locate b m e w = some (p, d)) : d ≤ e := by
  obtain ⟨-, -, hle, -⟩ := locate_eq_iff.mp h
  exact hle

/-! ## SYNC_RESULT (10_state.md R52) -/

theorem maxErr_lt (c : ConfigRegs) : c.maxErr < 2 ^ 6 := (c.syncCfg.extractLsb' 16 6).isLt

section SyncWord

variable (headFound tailFound tailSearched : Bool) (eh et : Nat)

theorem getLsbD_syncWord (i : Nat) : (syncWord headFound tailFound tailSearched eh et).getLsbD i =
    if i = 0 then headFound else if i = 1 then tailFound else if i = 2 then tailSearched
    else if 8 ≤ i ∧ i < 14 then eh.testBit (i - 8)
    else if 16 ≤ i ∧ i < 22 then et.testBit (i - 16) else false := by
  simp only [syncWord, BitVec.getLsbD_append, BitVec.getLsbD_ofNat, BitVec.getLsbD_ofBool, Nat.sub_sub]
  grind

theorem syncWord_headErr : (syncWord headFound tailFound tailSearched eh et).extractLsb' 8 6 = BitVec.ofNat 6 eh := by
  ext i hi
  rw [BitVec.getElem_extractLsb', getLsbD_syncWord, ← BitVec.getLsbD_eq_getElem, BitVec.getLsbD_ofNat]
  grind

theorem syncWord_tailErr :
    (syncWord headFound tailFound tailSearched eh et).extractLsb' 16 6 = BitVec.ofNat 6 et := by
  ext i hi
  rw [BitVec.getElem_extractLsb', getLsbD_syncWord, ← BitVec.getLsbD_eq_getElem, BitVec.getLsbD_ofNat]
  grind

end SyncWord

theorem toNat_ofNat_of_le_maxErr {c : ConfigRegs} {d : Nat} (h : d ≤ c.maxErr) : (BitVec.ofNat 6 d).toNat = d := by
  rw [BitVec.toNat_ofNat, Nat.mod_eq_of_lt (h.trans_lt (maxErr_lt c))]

/-! ## The synchronizer, row by row of the policy table (43_frame_sync.md R216, R218) -/

/-- The events `ev` raised and the five registers of the synchronizer written. -/
def syncWrites (s : State) (ev sr hp tp ps pe : Word) : State := { s with
  events := s.events ||| ev
  msg := { s.msg with syncResult := sr, headPos := hp, tailPos := tp, payloadStart := ps, payloadEnd := pe } }

/-- A marker missed with the event `e`: in strict mode SYNC_FAIL as well and no payload. -/
theorem missedMarker_eq (s : State) (sr hp : Word) (ps pe : Nat) (e : Event) :
    missedMarker ps pe ({ s with msg := { s.msg with
      syncResult := sr, headPos := hp, tailPos := 0, payloadStart := 0, payloadEnd := 0 } }.raise e) =
      if s.cfg.syncStrict then (syncWrites s (eventBit e ||| eventBit .syncFail) sr hp 0 0 0, none)
      else (syncWrites s (eventBit e) sr hp 0 (BitVec.ofNat 32 ps) (BitVec.ofNat 32 pe), some (ps, pe)) := by
  rw [missedMarker, syncWrites, ← BitVec.or_assoc]
  rfl

section Sync

variable {s : State} {ph eh pt et : Nat}

theorem sync_of_head_missed (hhead : headSearch s.cfg s.msg.bits = none) :
    sync s = if s.cfg.syncStrict then (syncWrites s (eventBit .headMiss ||| eventBit .syncFail) 0 0 0 0 0, none)
      else (syncWrites s (eventBit .headMiss) 0 0 0 0 (BitVec.ofNat 32 s.msg.bits.length),
        some (0, s.msg.bits.length)) := by
  rw [sync, hhead]
  exact missedMarker_eq s 0 0 0 s.msg.bits.length .headMiss

theorem sync_of_tail_missed (hhead : headSearch s.cfg s.msg.bits = some (ph, eh))
    (htail : tailSearch s.cfg (s.msg.bits.drop (ph + s.cfg.headLen)) = none) :
    sync s =
      if s.cfg.syncStrict then (syncWrites s (eventBit .tailMiss ||| eventBit .syncFail)
        (syncWord true false true eh 0) (BitVec.ofNat 32 ph) 0 0 0, none)
      else (syncWrites s (eventBit .tailMiss) (syncWord true false true eh 0) (BitVec.ofNat 32 ph) 0
        (BitVec.ofNat 32 (ph + s.cfg.headLen)) (BitVec.ofNat 32 s.msg.bits.length),
        some (ph + s.cfg.headLen, s.msg.bits.length)) := by
  simp only [sync, hhead, htail]
  exact missedMarker_eq s _ _ _ _ .tailMiss

theorem sync_of_found (hhead : headSearch s.cfg s.msg.bits = some (ph, eh))
    (htail : tailSearch s.cfg (s.msg.bits.drop (ph + s.cfg.headLen)) = some (pt, et)) :
    sync s = (syncWrites s 0 (syncWord true true true eh et) (BitVec.ofNat 32 ph)
      (BitVec.ofNat 32 (ph + s.cfg.headLen + pt)) (BitVec.ofNat 32 (ph + s.cfg.headLen))
      (BitVec.ofNat 32 (ph + s.cfg.headLen + pt)), some (ph + s.cfg.headLen, ph + s.cfg.headLen + pt)) := by
  have hevents : s.events ||| 0 = s.events := BitVec.or_zero
  simp only [sync, hhead, htail]
  rw [syncWrites, hevents]
  rfl

end Sync

/-- Settles O43: the statement's searches are the model's, and its writes are `syncWrites`. -/
theorem syncWritesByThePolicy : Obligations.SyncWritesByThePolicy := by
  intro s b strict wrote pos headLen tailLen maxErr
  split
  next hhead =>
    have hsync := sync_of_head_missed (s := s) hhead
    split
    next hstrict => exact hsync.trans (if_pos hstrict)
    next hlenient => exact hsync.trans (if_neg hlenient)
  next ph eh hhead =>
    have heh : (BitVec.ofNat 6 eh).toNat = eh := toNat_ofNat_of_le_maxErr (c := s.cfg) (locate_le_tolerance hhead)
    intro st
    split
    next htail =>
      have hsync := sync_of_tail_missed (s := s) hhead htail
      refine ⟨syncWord true false true eh 0, fun i hi => ?_, by rw [syncWord_headErr, heh], ?_⟩
      · rw [getLsbD_syncWord]
        grind
      · split
        next hstrict => exact hsync.trans (if_pos hstrict)
        next hlenient => exact hsync.trans (if_neg hlenient)
    next pt et htail =>
      have het : (BitVec.ofNat 6 et).toNat = et := toNat_ofNat_of_le_maxErr (c := s.cfg) (locate_le_tolerance htail)
      refine ⟨syncWord true true true eh et, fun i hi => ?_, by rw [syncWord_headErr, heh],
        by rw [syncWord_tailErr, het], sync_of_found (s := s) hhead htail⟩
      rw [getLsbD_syncWord]
      grind

/-- Settles O44: a located marker ends within the stream, so the payload does, in each row of the policy table. -/
theorem payloadLiesInTheStream : Obligations.PayloadLiesInTheStream := by
  intro s ps pe h
  cases hhead : headSearch s.cfg s.msg.bits with
  | none =>
    rw [sync_of_head_missed hhead] at h
    split at h <;> cases h
    exact ⟨Nat.zero_le _, le_rfl⟩
  | some x =>
    obtain ⟨ph, eh⟩ := x
    have hst := headSearch_le hhead
    cases htail : tailSearch s.cfg (s.msg.bits.drop (ph + s.cfg.headLen)) with
    | none =>
      rw [sync_of_tail_missed hhead htail] at h
      split at h <;> cases h
      exact ⟨hst, le_rfl⟩
    | some y =>
      obtain ⟨pt, et⟩ := y
      have hpt := tailSearch_le htail
      rw [List.length_drop] at hpt
      rw [sync_of_found hhead htail] at h
      cases h
      exact ⟨Nat.le_add_right _ _, by omega⟩

end Sys2Proof.Machine

/-! # Proofs: a well-marked message decodes to its bytes (44_byte_framer.md R236, 45_destuffer.md R255)

The sender's framing and stuffing are undone unit by unit: an accepted frame consumes the 10 bits of one unit, and a
stuffed byte leaves the destuffer where it was. The markers are exact matches at the first place, so COMPUTE decodes
the bits between them, and the engine alone delivers the entries one turn each. -/

namespace Sys2Proof.Machine

/-! ## Framing and back (44_byte_framer.md R232, R236) -/

theorem getLsbD_ofNat_bitsValue (l : List Bool) {i : Nat} (hi : i < 8) :
    (BitVec.ofNat 8 (bitsValue l)).getLsbD i = l.getD i false := by
  rw [BitVec.getLsbD_ofNat, bitsValue_testBit, decide_eq_true hi, Bool.true_and]

theorem serialise_msbFirst_reverse (b : Byte) : (serialise .msbFirst b).reverse = serialise .lsbFirst b := rfl

theorem assemble_serialise (order : BitOrder) (b : Byte) : assemble (serialise order b) order = b := by
  have hlsb : BitVec.ofNat 8 (bitsValue (serialise .lsbFirst b)) = b := by
    refine BitVec.eq_of_getLsbD_eq fun i hi => ?_
    rw [getLsbD_ofNat_bitsValue _ hi, serialise, List.getD_eq_getElem?_getD, List.getElem?_map,
      List.getElem?_range hi]
    rfl
  cases order with
  | lsbFirst => exact hlsb
  | msbFirst => rw [assemble, serialise_msbFirst_reverse, hlsb]

theorem frameBytes_cons (order : BitOrder) (b : Byte) (bytes : List Byte) :
    frameBytes order (b :: bytes) = false :: (serialise order b ++ true :: frameBytes order bytes) := by
  simp [frameBytes]

theorem frameBytes_length (order : BitOrder) (bytes : List Byte) :
    (frameBytes order bytes).length = 10 * bytes.length := by
  induction bytes with
  | nil => rfl
  | cons b bytes ih =>
    rw [frameBytes_cons, List.length_cons, List.length_append, serialise_length, List.length_cons, ih,
      List.length_cons]
    omega

theorem decodeFrames_frameBytes (order : BitOrder) (bytes : List Byte) :
    decodeFrames (frameBytes order bytes) order = ⟨bytes, bytes.length, 0⟩ := by
  rw [decodeFrames]
  induction bytes with
  | nil => rfl
  | cons b bytes ih =>
    rw [frameBytes_cons, frameScan_accept order _ _ (serialise_length order b), ih, assemble_serialise]
    rfl

/-! ## Stuffing and back (45_destuffer.md R255) -/

theorem stuff_cons (e b : Byte) (bytes : List Byte) :
    stuff e (b :: bytes) = if b = e then e :: (b ^^^ escapeMask) :: stuff e bytes else b :: stuff e bytes := by
  rw [stuff, List.flatMap_cons]
  split <;> rfl

theorem unstuff_stuff (e : Byte) (bytes : List Byte) : unstuff (stuff e bytes) e = (bytes, false) := by
  rw [unstuff]
  induction bytes with
  | nil => rfl
  | cons b bytes ih =>
    rw [stuff_cons]
    split
    next =>
      have hback : b ^^^ escapeMask ^^^ escapeMask = b := by rw [BitVec.xor_assoc, BitVec.xor_self, BitVec.xor_zero]
      rw [unstuffFrom_escape, unstuffFrom_pending, ih, hback]
    next hb => rw [unstuffFrom_other hb, ih]

theorem length_le_stuff (e : Byte) (bytes : List Byte) : bytes.length ≤ (stuff e bytes).length := by
  induction bytes with
  | nil => exact Nat.zero_le _
  | cons b bytes ih =>
    rw [stuff_cons]
    split <;> simp only [List.length_cons] <;> omega

/-! ## Delivery (40_host_ops.md R155, R156) -/

/-- Every waiting entry moved to OFIFO, in order. -/
def deliverAll (s : State) : State :=
  { s with msg := { s.msg with outseq := [], ofifo := s.msg.ofifo ++ s.msg.outseq } }

theorem deliverAll_of_nil {s : State} (h : s.msg.outseq = []) : deliverAll s = s := by
  simp only [deliverAll, h, List.append_nil]
  rw [← h]

theorem deliverAll_deliverStep {s : State} {e : Word} {rest : List Word} (h : s.msg.outseq = e :: rest) :
    deliverAll (deliverStep s) = deliverAll s := by
  rw [deliverStep_cons h, deliverAll, deliverAll, h]
  simp only [List.append_assoc, List.singleton_append]

/-- In DELIVER, with room for every entry, the engine alone moves them all and goes to DONE. -/
theorem engineRun_of_room (entries : List Word) {s : State} (hfin : s.state = .finish) (hs : s.msg.sfifo = [])
    (hp : s.msg.fphase = .deliver) (hseq : s.msg.outseq = entries)
    (hroom : s.msg.ofifo.length + entries.length ≤ s.params.ofifoDepth) :
    engineRun (entries.length + 1) s = completeStep (deliverAll s) := by
  induction entries generalizing s with
  | nil =>
    rw [deliverAll_of_nil hseq]
    exact engineStep_complete hfin hs hp hseq
  | cons e rest ih =>
    rw [List.length_cons] at hroom
    have hleft : s.msg.outseq ≠ [] := by rw [hseq]; exact List.cons_ne_nil e rest
    have hroom' : (s.msg.ofifo ++ [e]).length + rest.length ≤ s.params.ofifoDepth := by
      rw [List.length_append, List.length_singleton]
      omega
    have hstep : engineStep s = deliverStep s := engineStep_deliver hfin hs hp hleft (by omega)
    have hrun : engineRun (rest.length + 1) (deliverStep s) = completeStep (deliverAll (deliverStep s)) := by
      rw [deliverStep_cons hseq]
      exact ih hfin hs hp rfl hroom'
    rw [List.length_cons, engineRun, hstep, hrun, deliverAll_deliverStep hseq]

/-! ## COMPUTE on a well-marked message (43_frame_sync.md R213, R218; 45_destuffer.md R258) -/

/-- The frames that the sender makes of its bytes with this configuration. -/
def sentFrames (c : ConfigRegs) (bytes : List Byte) : List Bool :=
  frameBytes c.bitOrder (stuff c.escapeByte bytes)

/-- The stream of `s` is the head marker, the frames of `bytes`, the tail marker and `after`, where the tail marker
stands at no earlier place after the head and its place is within the tail window. -/
structure WellMarked (s : State) (bytes : List Byte) (after : List Bool) : Prop where
  bits : s.msg.bits = markerBits s.cfg.headPat s.cfg.headLen ++ sentFrames s.cfg bytes ++
    markerBits s.cfg.tailPat s.cfg.tailLen ++ after
  window : s.cfg.tailWin = 0 ∨ (sentFrames s.cfg bytes).length < s.cfg.tailWin.toNat
  first : ∀ q < (sentFrames s.cfg bytes).length,
    hamming (sentFrames s.cfg bytes ++ markerBits s.cfg.tailPat s.cfg.tailLen ++ after)
      (markerBits s.cfg.tailPat s.cfg.tailLen) q ≠ 0

namespace WellMarked

variable {s : State} {bytes : List Byte} {after : List Bool}

theorem headSearch_eq (h : WellMarked s bytes after) : headSearch s.cfg s.msg.bits = some (0, 0) := by
  have hbits : s.msg.bits = [] ++ markerBits s.cfg.headPat s.cfg.headLen ++ (sentFrames s.cfg bytes ++
      (markerBits s.cfg.tailPat s.cfg.tailLen ++ after)) := by
    rw [h.bits, List.nil_append, List.append_assoc, List.append_assoc]
  rw [hbits]
  refine locate_of_exact _ (mem_candidates.mpr ⟨?_, Nat.eq_zero_or_pos _⟩) (hamming_append [] _ _)
    fun q hq => absurd hq (Nat.not_lt_zero q)
  rw [List.length_append, List.nil_append]
  omega

theorem drop_head (h : WellMarked s bytes after) : s.msg.bits.drop (0 + s.cfg.headLen) =
    sentFrames s.cfg bytes ++ markerBits s.cfg.tailPat s.cfg.tailLen ++ after := by
  rw [h.bits, List.append_assoc, List.append_assoc]
  rw [List.drop_left' (by rw [markerBits_length, Nat.zero_add]), List.append_assoc]

theorem tailSearch_eq (h : WellMarked s bytes after) :
    tailSearch s.cfg (s.msg.bits.drop (0 + s.cfg.headLen)) = some ((sentFrames s.cfg bytes).length, 0) := by
  have hwindow : s.cfg.tailWin.toNat = 0 ∨ (sentFrames s.cfg bytes).length < s.cfg.tailWin.toNat :=
    h.window.imp_left fun hw => by rw [hw]; rfl
  rw [h.drop_head]
  refine locate_of_exact _ (mem_candidates.mpr ⟨?_, hwindow⟩) (hamming_append _ _ _) h.first
  rw [List.length_append, List.length_append]
  omega

/-- The payload is what stands between the markers. -/
theorem payload_eq (h : WellMarked s bytes after) :
    (s.msg.bits.take (s.cfg.headLen + (sentFrames s.cfg bytes).length)).drop s.cfg.headLen =
      sentFrames s.cfg bytes := by
  have hrest := h.drop_head
  rw [Nat.zero_add] at hrest
  rw [List.drop_take, Nat.add_sub_cancel_left, hrest, List.append_assoc, List.take_left]

/-- The stream holds ten bits of every stuffed byte. -/
theorem stuff_length_le (h : WellMarked s bytes after) :
    s.cfg.headLen + 10 * (stuff s.cfg.escapeByte bytes).length ≤ s.msg.bits.length := by
  rw [h.bits, List.length_append, List.length_append, List.length_append, markerBits_length, sentFrames,
    frameBytes_length]
  omega

end WellMarked

/-- A payload of sent frames is decoded to the bytes sent, with no slip and no event. -/
theorem decodePayload_of_sentFrames {s : State} {bytes : List Byte} {ps pe : Nat}
    (h : (s.msg.bits.take pe).drop ps = sentFrames s.cfg bytes) :
    decodePayload ps pe s = { s with msg := { s.msg with
      frameCount := BitVec.ofNat 32 (stuff s.cfg.escapeByte bytes).length, frameErrCount := 0
      outseq := bytes.map outEntry, outTotal := BitVec.ofNat 32 bytes.length } } := by
  have hframed : decodeFrames (sentFrames s.cfg bytes) s.cfg.bitOrder =
      ⟨stuff s.cfg.escapeByte bytes, (stuff s.cfg.escapeByte bytes).length, 0⟩ := decodeFrames_frameBytes _ _
  simp only [decodePayload, h, hframed, unstuff_stuff]
  rfl

/-- What COMPUTE leaves of a well-marked message. -/
def decodedMessage (s : State) (bytes : List Byte) : Message :=
  let headLen := s.cfg.headLen
  let tailPos := BitVec.ofNat 32 (headLen + (sentFrames s.cfg bytes).length)
  { s.msg with
    fphase := .deliver, syncResult := 7, headPos := 0, tailPos := tailPos
    payloadStart := BitVec.ofNat 32 headLen, payloadEnd := tailPos
    frameCount := BitVec.ofNat 32 (stuff s.cfg.escapeByte bytes).length, frameErrCount := 0
    outTotal := BitVec.ofNat 32 bytes.length, outseq := bytes.map outEntry }

theorem computeStep_of_wellMarked {s : State} {bytes : List Byte} {after : List Bool}
    (h : WellMarked s bytes after) (hstrong : flt s.msg.peak s.cfg.ampFloor = false) :
    computeStep s = { s with msg := decodedMessage s bytes } := by
  have hsync := sync_of_found h.headSearch_eq h.tailSearch_eq
  have hevents : s.events ||| 0 = s.events := BitVec.or_zero
  have hpayload (ev sr hp tp ps pe : Word) :
      ((syncWrites s ev sr hp tp ps pe).msg.bits.take (s.cfg.headLen + (sentFrames s.cfg bytes).length)).drop
        s.cfg.headLen = sentFrames (syncWrites s ev sr hp tp ps pe).cfg bytes := h.payload_eq
  rw [Nat.zero_add] at hsync
  rw [computeStep, phase2_of_payload (Bool.eq_false_iff.mp hstrong) hsync,
    decodePayload_of_sentFrames (hpayload ..), syncWrites, hevents]
  rfl

/-- Settles O50: COMPUTE on a well-marked message, then a turn for each entry, then COMPLETE. -/
theorem messageDecodesToItsBytes : Obligations.MessageDecodesToItsBytes := by
  intro s bytes after headLen tailLen ampFloor order escape head tail frames hfin hp hs hstrong hbits hlen hwindow
    hfirst t
  have hmarked : WellMarked s bytes after := ⟨hbits, hwindow, hfirst⟩
  have ht : t = { s with msg := decodedMessage s bytes } :=
    (engineStep_compute hfin hs hp).trans (computeStep_of_wellMarked hmarked hstrong)
  refine ⟨?decoded, fun hroom => ?delivered⟩
  case decoded =>
    have hstuffed := hmarked.stuff_length_le
    have hframes : (sentFrames s.cfg bytes).length = 10 * (stuff s.cfg.escapeByte bytes).length :=
      frameBytes_length _ _
    have hbytes := length_le_stuff s.cfg.escapeByte bytes
    have hsmall {n : Nat} (hn : n ≤ s.msg.bits.length) : (BitVec.ofNat 32 n).toNat = n := by
      rw [BitVec.toNat_ofNat, Nat.mod_eq_of_lt (hn.trans_lt hlen)]
    rw [ht]
    exact ⟨rfl, hsmall (by omega), hsmall (by omega), rfl, rfl, rfl, hsmall (by omega), hsmall (by omega), rfl, rfl⟩
  case delivered =>
    have hrun : engineRun (bytes.length + 2) s = completeStep (deliverAll t) := by
      have hdeliver := engineRun_of_room (bytes.map outEntry) (s := t) (by rw [ht]; exact hfin)
        (by rw [ht]; exact hs) (by rw [ht]; rfl) (by rw [ht]; rfl)
        (by rw [ht, List.length_map]; exact hroom)
      rwa [List.length_map] at hdeliver
    intro u
    have hu : u = completeStep (deliverAll { s with msg := decodedMessage s bytes }) := by rw [← ht]; exact hrun
    rw [hu]
    exact ⟨rfl, rfl, rfl, rfl⟩

end Sys2Proof.Machine

/-! # Proofs: the framer and its round trip (44_byte_framer.md R231, R232, R236)

The model scans the bits that are left and the rule's loop indexes the whole sequence: at the scan position `i` the
scan stands at `b.drop i`. The four branches of the loop are the four equations of `frameScan`, and by Horner's scheme
a byte read as a number is the sum of its shifted bits. -/

namespace Sys2Proof.Machine

/-! ## A byte as the sum of its shifted bits (44_byte_framer.md R232) -/

/-- One data bit as a byte. -/
def bitByte (d : Bool) : Byte := (BitVec.ofBool d).setWidth 8

/-- The sum of R232, over the data bits by index. -/
def shiftedSum (order : BitOrder) (data : Nat → Bool) : Byte :=
  match order with
  | .lsbFirst => bitByte (data 0) + bitByte (data 1) <<< 1 + bitByte (data 2) <<< 2 + bitByte (data 3) <<< 3 +
      bitByte (data 4) <<< 4 + bitByte (data 5) <<< 5 + bitByte (data 6) <<< 6 + bitByte (data 7) <<< 7
  | .msbFirst => bitByte (data 0) <<< 7 + bitByte (data 1) <<< 6 + bitByte (data 2) <<< 5 + bitByte (data 3) <<< 4 +
      bitByte (data 4) <<< 3 + bitByte (data 5) <<< 2 + bitByte (data 6) <<< 1 + bitByte (data 7)

theorem bitByte_eq_ofNat (d : Bool) : bitByte d = BitVec.ofNat 8 d.toNat := by cases d <;> rfl

/-- One step of Horner's scheme. -/
theorem ofNat_bitsValue_cons (d : Bool) (rest : List Bool) :
    BitVec.ofNat 8 (bitsValue (d :: rest)) = bitByte d + BitVec.ofNat 8 (bitsValue rest) <<< 1 := by
  rw [bitsValue, BitVec.ofNat_add, ← bitByte_eq_ofNat, BitVec.ofNat_mul, BitVec.shiftLeft_eq_mul_twoPow,
    BitVec.mul_comm]
  rfl

theorem ofNat_bitsValue_eight (d0 d1 d2 d3 d4 d5 d6 d7 : Bool) :
    BitVec.ofNat 8 (bitsValue [d0, d1, d2, d3, d4, d5, d6, d7]) =
      bitByte d0 + bitByte d1 <<< 1 + bitByte d2 <<< 2 + bitByte d3 <<< 3 + bitByte d4 <<< 4 + bitByte d5 <<< 5 +
        bitByte d6 <<< 6 + bitByte d7 <<< 7 := by
  have hnil : BitVec.ofNat 8 (bitsValue []) = 0#8 := rfl
  simp only [ofNat_bitsValue_cons, hnil, BitVec.shiftLeft_add_distrib, ← BitVec.shiftLeft_add, BitVec.zero_shiftLeft,
    BitVec.add_zero, Nat.reduceAdd, BitVec.add_assoc]

theorem assemble_eq_shiftedSum (order : BitOrder) (data : List Bool) (h : data.length = 8) :
    assemble data order = shiftedSum order (data.getD · false) := by
  match data, h with
  | [d0, d1, d2, d3, d4, d5, d6, d7], _ =>
    cases order with
    | lsbFirst => exact ofNat_bitsValue_eight d0 d1 d2 d3 d4 d5 d6 d7
    | msbFirst =>
      refine (ofNat_bitsValue_eight d7 d6 d5 d4 d3 d2 d1 d0).trans ?_
      simp only [shiftedSum, List.getD_cons_zero, List.getD_cons_succ]
      ac_rfl

/-! ## The rule's loop, a branch at a time (44_byte_framer.md R231) -/

section WrittenLoop

variable {order : BitOrder} {b : List Bool} {i acc rej : Nat} {out : List Byte}

theorem framerLoop_terminate (fuel : Nat) (h : b.length < i + 10) :
    Claims.framerLoop order b fuel i out acc rej = ⟨out, acc, rej⟩ := by
  cases fuel with
  | zero => rfl
  | succ fuel => rw [Claims.framerLoop, if_pos h]

theorem framerLoop_hunt (fuel : Nat) (h : i + 10 ≤ b.length) (hstart : b.getD i false = true) :
    Claims.framerLoop order b (fuel + 1) i out acc rej = Claims.framerLoop order b fuel (i + 1) out acc rej := by
  rw [Claims.framerLoop, if_neg (Nat.not_lt.mpr h), if_pos hstart]

theorem framerLoop_accept (fuel : Nat) (h : i + 10 ≤ b.length) (hstart : b.getD i false = false)
    (hstop : b.getD (i + 9) false = true) :
    Claims.framerLoop order b (fuel + 1) i out acc rej =
      Claims.framerLoop order b fuel (i + 10) (out ++ [shiftedSum order fun k => b.getD (i + 1 + k) false])
        (acc + 1) rej := by
  rw [Claims.framerLoop, if_neg (Nat.not_lt.mpr h), if_neg (Bool.eq_false_iff.mp hstart), if_pos hstop]
  cases order <;> rfl

theorem framerLoop_slip (fuel : Nat) (h : i + 10 ≤ b.length) (hstart : b.getD i false = false)
    (hstop : b.getD (i + 9) false = false) :
    Claims.framerLoop order b (fuel + 1) i out acc rej = Claims.framerLoop order b fuel (i + 1) out acc (rej + 1) := by
  rw [Claims.framerLoop, if_neg (Nat.not_lt.mpr h), if_neg (Bool.eq_false_iff.mp hstart),
    if_neg (Bool.eq_false_iff.mp hstop)]

/-! ## The model's scan at a position -/

/-- The 8 data bits of a frame that starts at position `i`. -/
def dataBits (b : List Bool) (i : Nat) : List Bool := (b.drop (i + 1)).take 8

theorem dataBits_length (h : i + 10 ≤ b.length) : (dataBits b i).length = 8 := by
  rw [dataBits, List.length_take, List.length_drop]
  omega

theorem dataBits_getD {k : Nat} (hk : k < 8) : (dataBits b i).getD k false = b.getD (i + 1 + k) false := by
  rw [dataBits, List.getD_eq_getElem?_getD, List.getElem?_take_of_lt hk, List.getElem?_drop,
    ← List.getD_eq_getElem?_getD]

theorem drop_eq_getD_cons (h : i < b.length) : b.drop i = b.getD i false :: b.drop (i + 1) := by
  rw [List.drop_eq_getElem_cons h, List.getD_eq_getElem b false h]

/-- After the start bit: the data bits, the stop bit, the rest. -/
theorem drop_succ_eq_frame (h : i + 10 ≤ b.length) :
    b.drop (i + 1) = dataBits b i ++ b.getD (i + 9) false :: b.drop (i + 10) := by
  rw [← drop_eq_getD_cons (by omega), dataBits, ← List.drop_drop (i := 8) (j := i + 1), List.take_append_drop]

theorem assemble_dataBits (h : i + 10 ≤ b.length) :
    assemble (dataBits b i) order = shiftedSum order fun k => b.getD (i + 1 + k) false := by
  rw [assemble_eq_shiftedSum order _ (dataBits_length h)]
  cases order <;> simp only [shiftedSum, dataBits_getD, Nat.reduceLT]

theorem frameScan_drop_terminate (h : b.length < i + 10) : frameScan order (b.drop i) 0 = ⟨[], 0, 0⟩ :=
  frameScan_short order _ (by rw [List.length_drop]; omega)

theorem frameScan_drop_hunt (h : i + 10 ≤ b.length) (hstart : b.getD i false = true) :
    frameScan order (b.drop i) 0 = frameScan order (b.drop (i + 1)) 0 := by
  rw [drop_eq_getD_cons (by omega), hstart, frameScan_hunt order _ (by rw [List.length_drop]; omega)]

theorem frameScan_drop_accept (h : i + 10 ≤ b.length) (hstart : b.getD i false = false)
    (hstop : b.getD (i + 9) false = true) :
    frameScan order (b.drop i) 0 =
      ⟨(shiftedSum order fun k => b.getD (i + 1 + k) false) :: (frameScan order (b.drop (i + 10)) 0).bytes,
        (frameScan order (b.drop (i + 10)) 0).acc + 1, (frameScan order (b.drop (i + 10)) 0).rej⟩ := by
  rw [drop_eq_getD_cons (by omega), drop_succ_eq_frame h, hstart, hstop,
    frameScan_accept order _ _ (dataBits_length h), assemble_dataBits h]

theorem frameScan_drop_slip (h : i + 10 ≤ b.length) (hstart : b.getD i false = false)
    (hstop : b.getD (i + 9) false = false) :
    frameScan order (b.drop i) 0 =
      ⟨(frameScan order (b.drop (i + 1)) 0).bytes, (frameScan order (b.drop (i + 1)) 0).acc,
        (frameScan order (b.drop (i + 1)) 0).rej + 1⟩ := by
  rw [drop_eq_getD_cons (i := i) (by omega), drop_succ_eq_frame h, hstart, hstop,
    frameScan_slip order _ _ (dataBits_length h)]

end WrittenLoop

/-- The loop from position `i` adds what the scan of `b.drop i` gives; every round advances, so that this much fuel
does. -/
theorem framerLoop_eq_frameScan (order : BitOrder) (b : List Bool) (fuel i : Nat) (out : List Byte) (acc rej : Nat)
    (hfuel : b.length < i + fuel) :
    Claims.framerLoop order b fuel i out acc rej =
      ⟨out ++ (frameScan order (b.drop i) 0).bytes, acc + (frameScan order (b.drop i) 0).acc,
        rej + (frameScan order (b.drop i) 0).rej⟩ := by
  induction fuel generalizing i out acc rej with
  | zero => rw [framerLoop_terminate 0 (by omega), frameScan_drop_terminate (by omega), List.append_nil]; rfl
  | succ fuel ih =>
    by_cases hshort : b.length < i + 10
    · rw [framerLoop_terminate _ hshort, frameScan_drop_terminate hshort, List.append_nil]; rfl
    have h : i + 10 ≤ b.length := Nat.not_lt.mp hshort
    cases hstart : b.getD i false with
    | true => rw [framerLoop_hunt fuel h hstart, ih _ _ _ _ (by omega), frameScan_drop_hunt h hstart]
    | false =>
      cases hstop : b.getD (i + 9) false with
      | true =>
        rw [framerLoop_accept fuel h hstart hstop, ih _ _ _ _ (by omega), frameScan_drop_accept h hstart hstop,
          List.append_assoc, List.singleton_append, Nat.add_right_comm, Nat.add_assoc]
      | false =>
        rw [framerLoop_slip fuel h hstart hstop, ih _ _ _ _ (by omega), frameScan_drop_slip h hstart hstop,
          Nat.add_right_comm, Nat.add_assoc]

/-- Settles O45: the rule's loop from position 0 adds the scan of the whole sequence to nothing. -/
theorem framerIsTheWrittenLoop : Obligations.FramerIsTheWrittenLoop := by
  intro order b
  rw [framerLoop_eq_frameScan order b _ 0 [] 0 0 (by omega), List.nil_append, Nat.zero_add, Nat.zero_add,
    List.drop_zero, decodeFrames]

/-- Settles O46: each 10-bit unit is accepted whole and gives its byte back, by induction on the bytes. -/
theorem framingRoundTrip : Obligations.FramingRoundTrip := decodeFrames_frameBytes

end Sys2Proof.Machine

/-! # Proofs: the destuffer, its round trip and the output entry (45_destuffer.md R250, R253 to R255)

The rule's loop appends at the end what the model's automaton conses at the front, so the loop is followed from any
bytes already out and either state of the pending flag. -/

namespace Sys2Proof.Machine

/-! ## One round of the rule's loop (45_destuffer.md R250) -/

theorem destuffRound_pending (e b : Byte) (out : List Byte) :
    Claims.destuffRound e (out, true) b = (out ++ [b ^^^ escapeMask], false) := rfl

theorem destuffRound_escape (e : Byte) (out : List Byte) : Claims.destuffRound e (out, false) e = (out, true) :=
  if_pos rfl

theorem destuffRound_other {e b : Byte} (h : b ≠ e) (out : List Byte) :
    Claims.destuffRound e (out, false) b = (out ++ [b], false) := if_neg h

/-- The loop from `out` adds what the automaton emits, and ends with its pending flag. -/
theorem foldl_destuffRound_eq_unstuffFrom (e : Byte) (y out : List Byte) (pending : Bool) :
    y.foldl (Claims.destuffRound e) (out, pending) =
      (out ++ (unstuffFrom e pending y).1, (unstuffFrom e pending y).2) := by
  induction y generalizing out pending with
  | nil => rw [unstuffFrom, List.append_nil, List.foldl_nil]
  | cons b y ih =>
    rw [List.foldl_cons]
    cases pending with
    | true => rw [destuffRound_pending, ih, unstuffFrom_pending, List.append_assoc, List.singleton_append]
    | false =>
      by_cases hb : b = e
      · rw [hb, destuffRound_escape, ih, unstuffFrom_escape]
      · rw [destuffRound_other hb, ih, unstuffFrom_other hb, List.append_assoc, List.singleton_append]

/-- Settles O47: the rule's loop from nothing adds to nothing what the automaton emits. -/
theorem destufferIsTheWrittenLoop : Obligations.DestufferIsTheWrittenLoop := by
  intro e y
  rw [foldl_destuffRound_eq_unstuffFrom, List.nil_append, unstuff]

/-! ## The round trip (45_destuffer.md R255) -/

theorem stuff_eq_self {e : Byte} {bytes : List Byte} (h : e ∉ bytes) : stuff e bytes = bytes := by
  induction bytes with
  | nil => rfl
  | cons b bytes ih =>
    obtain ⟨hb, hbytes⟩ := List.ne_and_not_mem_of_not_mem_cons h
    rw [stuff_cons, if_neg hb.symm, ih hbytes]

/-- Settles O48: a sequence without the escape byte is its own stuffing, so both forms are the one round trip. -/
theorem destuffingInvertsStuffing : Obligations.DestuffingInvertsStuffing := by
  intro e bytes
  have hback : unstuff (stuff e bytes) e = (bytes, false) := unstuff_stuff e bytes
  exact ⟨hback, fun habsent => by rwa [stuff_eq_self habsent] at hback⟩

/-! ## The output entry (45_destuffer.md R253, R254) -/

theorem printable_iff (b : Byte) : printable b = true ↔ 32 ≤ b.toNat ∧ b.toNat ≤ 126 := by
  rw [printable, Bool.and_eq_true, decide_eq_true_iff, decide_eq_true_iff]

/-- The four fields side by side are the same word as the fields shifted into place. -/
theorem entryFields_eq_or (print : Bool) (b : Byte) :
    1#1 ++ 0#22 ++ BitVec.ofBool print ++ b =
      0x80000000#32 ||| (if print then 1#32 else 0#32) <<< 8 ||| b.setWidth 32 := by
  have hhigh : (1#1 ++ 0#22 ++ BitVec.ofBool print).setWidth 32 <<< 8 =
      0x80000000#32 ||| (if print then 1#32 else 0#32) <<< 8 := by cases print <;> rfl
  rw [BitVec.append_def, BitVec.shiftLeftZeroExtend_eq, hhigh, BitVec.setWidth'_eq]

/-- Settles O49: PRINT is the truth value of the range test, and the fields do not overlap. -/
theorem outputEntryFormat : Obligations.OutputEntryFormat := by
  intro b
  rw [outEntry, entryFields_eq_or]
  simp only [printable_iff]

end Sys2Proof.Machine

/-! # Proofs: what a step answers, and which event bits it clears and raises (60_exceptions.md R270 to R290)

`Causes` is the table of simultaneous events (R275). Every performance of an action resets EVENTS, clears the bits
that the host wrote 1 to, or raises events that the table lists for the action (`Performs.eventsChange`); that a set
bit is sticky and that a new bit has its cause are the two readings of this one fact. -/

namespace Sys2Proof.Machine

/-! ## One response to every access (60_exceptions.md R290, 30_encoding.md R100) -/

/-- No host access touches the inbox, and before it answers no response is given. -/
theorem HostEffect.inbox_responses {s t : State} (h : HostEffect s t) :
    t.inbox = s.inbox ∧ t.responses = s.responses := by
  cases h with
  | config r d => rcases writeConfig_spec r d s with ⟨-, e⟩ | ⟨-, e⟩ <;> rw [e] <;> exact ⟨rfl, rfl⟩
  | sample x =>
    rcases offerSample_spec x s with ⟨-, e⟩ | ⟨-, -, e⟩ | ⟨-, -, _, -, e⟩ <;> rw [e] <;> exact ⟨rfl, rfl⟩
  | start => rcases startMessage_spec s with ⟨-, e⟩ | ⟨-, -, e⟩ | ⟨-, -, e⟩ <;> rw [e] <;> exact ⟨rfl, rfl⟩
  | finish => rcases endMessage_spec s with ⟨-, e⟩ | ⟨-, e⟩ <;> rw [e] <;> exact ⟨rfl, rfl⟩
  | _ => exact ⟨rfl, rfl⟩

/-- A write is acknowledged or refused, with read data 0 in both cases. -/
theorem exec_of_write {i : Instr} (h : busRw (encode i) = true) (s : State) :
    ∃ u r, exec i s = .next (State.respond u r 0) := by
  cases i
  all_goals first
    | exact ⟨_, _, rfl⟩
    | simp [encode] at h

theorem rdata_eq_zero_of_write {i : Instr} {s u : State} {r : Resp} {v : Word} (h : busRw (encode i) = true)
    (he : exec i s = .next (u.respond r v)) : v = 0 := by
  obtain ⟨u', r', he'⟩ := exec_of_write h s
  have hstate : u.respond r v = u'.respond r' 0 := by
    rw [he] at he'
    exact Host.Outcome.next.inj he'
  have hresponses : (⟨r, v⟩ :: u.responses : List BusResp) = ⟨r', 0⟩ :: u'.responses :=
    congrArg State.responses hstate
  exact congrArg BusResp.rdata (List.head_eq_of_cons_eq hresponses)

/-- Settles O21: an instruction does one host effect, which touches nothing outside the block, and answers. -/
theorem everyStepAnswers : Obligations.EveryStepAnswers := by
  refine ⟨step_completes, fun s i => ?_⟩
  obtain ⟨u, r, v, hu, he⟩ := exec_answers i s
  obtain ⟨hturns, hticks⟩ := hu.turns
  obtain ⟨hinbox, hresponses⟩ := hu.inbox_responses
  refine ⟨_, r, v, he, ?_, hinbox, hturns, hticks, fun hw => rdata_eq_zero_of_write hw he⟩
  rw [respond_responses, hresponses]

/-! ## Raising events -/

theorem getLsbD_eventBit_iff (e : Event) (i : Nat) : (eventBit e).getLsbD i = true ↔ i = eventCode e := by
  have hcode : eventCode e < 32 := by cases e <;> decide
  rw [eventBit, BitVec.getLsbD_shiftLeft, BitVec.getLsbD_one]
  simp only [Bool.and_eq_true, Bool.not_eq_true', decide_eq_true_iff, decide_eq_false_iff_not]
  omega

/-- From `s` to `t` no event is lost, and only events that meet `P` are new. -/
structure RaisesOnly (P : Event → Prop) (s t : State) : Prop where
  kept : ∀ i, s.events.getLsbD i = true → t.events.getLsbD i = true
  new : ∀ i, t.events.getLsbD i = true → s.events.getLsbD i = true ∨ ∃ e, P e ∧ i = eventCode e

section RaisesOnly

variable {P : Event → Prop}

theorem RaisesOnly.of_eq {s t : State} (h : t.events = s.events) : RaisesOnly P s t := by
  constructor <;> intro i hi
  · rwa [h]
  · exact .inl (by rwa [← h])

theorem RaisesOnly.trans {s u t : State} (h : RaisesOnly P s u) (k : RaisesOnly P u t) : RaisesOnly P s t :=
  ⟨fun i hi => k.kept i (h.kept i hi), fun i hi => (k.new i hi).elim (h.new i) .inr⟩

/-- What comes before may change all but EVENTS. -/
theorem RaisesOnly.after {s u t : State} (k : RaisesOnly P u t) (h : u.events = s.events) : RaisesOnly P s t :=
  .trans (.of_eq h) k

theorem RaisesOnly.respond {s t : State} (h : RaisesOnly P s t) (r : Resp) (v : Word) :
    RaisesOnly P s (t.respond r v) := ⟨h.kept, h.new⟩

theorem raisesOnly_raise {e : Event} (he : P e) (s : State) : RaisesOnly P s (s.raise e) := by
  constructor <;> intro i hi
  · rw [raise_events, BitVec.getLsbD_or, hi, Bool.true_or]
  · rw [raise_events, BitVec.getLsbD_or, Bool.or_eq_true, getLsbD_eventBit_iff] at hi
    exact hi.imp_right fun hcode => ⟨e, he, hcode⟩

/-! ## The slicer raises BITBUF_OVF alone (42_symbol_slicer.md R195) -/

theorem raisesOnly_storeSymbol (hovf : P .bitbufOvf) (bit unk : Bool) (s : State) :
    RaisesOnly P s (storeSymbol bit unk s) := by
  rcases storeSymbol_spec bit unk s with ⟨-, e⟩ | ⟨-, e⟩ <;> rw [e]
  · exact .of_eq rfl
  · exact (raisesOnly_raise hovf _).after rfl

theorem raisesOnly_windowComplete (hovf : P .bitbufOvf) (w : List F64) (s : State) :
    RaisesOnly P s (windowComplete w s) := by
  unfold windowComplete appendSymbol
  dsimp only
  split
  · exact .of_eq rfl
  · exact (raisesOnly_storeSymbol hovf _ _ _).after rfl
  · exact (raisesOnly_storeSymbol hovf _ _ _).after rfl

theorem raisesOnly_closeWindow (hovf : P .bitbufOvf) (s : State) : RaisesOnly P s (closeWindow s) := by
  unfold closeWindow
  split
  · exact (raisesOnly_windowComplete hovf _ _).after rfl
  · exact .of_eq rfl

theorem raisesOnly_consumeStep (hovf : P .bitbufOvf) (s : State) : RaisesOnly P s (consumeStep s) := by
  unfold consumeStep
  split
  · exact .of_eq rfl
  · exact (raisesOnly_closeWindow hovf _).after rfl

theorem raisesOnly_drainStep (hovf : P .bitbufOvf) (s : State) : RaisesOnly P s (drainStep s) := by
  unfold drainStep
  dsimp only
  split
  · exact (raisesOnly_windowComplete hovf _ _).after rfl
  · exact .of_eq rfl

/-! ## Phase 2 raises WEAK, the three events of the synchronizer, and TRUNC_ESC (45_destuffer.md R258) -/

theorem raisesOnly_missedMarker (hfail : P .syncFail) (ps pe : Nat) (s : State) :
    RaisesOnly P s (missedMarker ps pe s).1 := by
  unfold missedMarker
  split
  · exact raisesOnly_raise hfail s
  · exact .of_eq rfl

theorem raisesOnly_sync (hhead : P .headMiss) (htail : P .tailMiss) (hfail : P .syncFail) (s : State) :
    RaisesOnly P s (sync s).1 := by
  unfold sync
  dsimp only
  split
  · exact ((raisesOnly_raise hhead _).trans (raisesOnly_missedMarker hfail _ _ _)).after rfl
  · split
    · exact ((raisesOnly_raise htail _).trans (raisesOnly_missedMarker hfail _ _ _)).after rfl
    · exact .of_eq rfl

theorem raisesOnly_decodePayload (htrunc : P .truncEsc) (ps pe : Nat) (s : State) :
    RaisesOnly P s (decodePayload ps pe s) := by
  unfold decodePayload
  dsimp only
  split
  · exact (raisesOnly_raise htrunc s).trans (.of_eq rfl)
  · exact .of_eq rfl

end RaisesOnly

/-! ## The table of simultaneous events (60_exceptions.md R275) -/

/-- The event is one that the table lists for the action, taken in the state `s`. -/
inductive Causes (s : State) : Action → Event → Prop where
  | complete : Causes s (.engine .complete) .done
  | startInvalid : Causes s (.access .cmdStart) .cfgErr
  | startOpen : Causes s (.access .cmdStart) .cmdErr
  | endNotRun : Causes s (.access .cmdEnd) .cmdErr
  | reserved (d : Word) : Causes s (.access (.cmdReserved d)) .cmdErr
  | pushNotRun (d : Word) : Causes s (.access (.wrSampleHi d)) .pushErr
  | pushFull (d : Word) : Causes s (.access (.wrSampleHi d)) .sampleOvf
  | pushNonfinite (d : Word) : Causes s (.access (.wrSampleHi d)) .nonfinite
  | consumeFull : Causes s (.engine .consume) .bitbufOvf
  | drainFull : Causes s (.engine .drain) .bitbufOvf
  | weak : Causes s (.engine .compute) .weak
  | headMiss : Causes s (.engine .compute) .headMiss
  | tailMiss : Causes s (.engine .compute) .tailMiss
  | syncFail : Causes s (.engine .compute) .syncFail
  | truncEsc : Causes s (.engine .compute) .truncEsc
  | locked (r : CfgReg) (d : Word) : s.isOpen = true →
      Causes s (.access (decodeBus (busWord true (cfgWoff r) d))) .lockErr

theorem raisesOnly_phase2 (s : State) : RaisesOnly (Causes s (.engine .compute)) s (phase2 s) := by
  have hsync := raisesOnly_sync (P := Causes s (.engine .compute)) .headMiss .tailMiss .syncFail s
  rcases phase2_cases s with e | e | ⟨ps, pe, -, e⟩ <;> rw [e]
  · exact (raisesOnly_raise .weak s).trans (.of_eq rfl)
  · exact hsync.trans (.of_eq rfl)
  · exact hsync.trans (raisesOnly_decodePayload .truncEsc ps pe _)

theorem raisesOnly_engineStep {s : State} {e : EngineStep} (he : enabledStep s = some e) :
    RaisesOnly (Causes s (.engine e)) s (engineStep s) := by
  rw [engineStep, he]
  cases e with
  | consume => exact raisesOnly_consumeStep .consumeFull s
  | drain => exact raisesOnly_drainStep .drainFull s
  | compute => exact (raisesOnly_phase2 s).trans (.of_eq rfl)
  | complete => exact (raisesOnly_raise .complete _).after rfl
  | deliver =>
    dsimp only
    unfold deliverStep
    split <;> exact .of_eq rfl

theorem raisesOnly_startMessage (s : State) : RaisesOnly (Causes s (.access .cmdStart)) s (startMessage s) := by
  rcases startMessage_spec s with ⟨-, e⟩ | ⟨-, -, e⟩ | ⟨-, -, e⟩ <;> rw [e]
  · exact raisesOnly_raise .startOpen s
  · exact .of_eq rfl
  · exact (raisesOnly_raise .startInvalid _).after rfl

theorem raisesOnly_endMessage (s : State) : RaisesOnly (Causes s (.access .cmdEnd)) s (endMessage s) := by
  rcases endMessage_spec s with ⟨-, e⟩ | ⟨-, e⟩ <;> rw [e]
  · exact .of_eq rfl
  · exact raisesOnly_raise .endNotRun s

theorem raisesOnly_offerSample (d : Word) (x : F64) (s : State) :
    RaisesOnly (Causes s (.access (.wrSampleHi d))) s (offerSample x s) := by
  rcases offerSample_spec x s with ⟨-, e⟩ | ⟨-, -, e⟩ | ⟨-, -, ev, rfl | rfl, e⟩ <;> rw [e]
  · exact raisesOnly_raise (.pushNotRun d) s
  · exact raisesOnly_raise (.pushFull d) s
  · exact .of_eq rfl
  · exact (raisesOnly_raise (.pushNonfinite d) s).trans (.of_eq rfl)

/-- The write of an RWL register, given as the row `i` at its offset, raises LOCK_ERR with a message open. -/
theorem raisesOnly_writeConfig {i : Instr} {r : CfgReg} {d : Word} (hi : decodeWrite (cfgWoff r) d = i) (s : State) :
    RaisesOnly (Causes s (.access i)) s (writeConfig r d s) := by
  rw [← decodeBus_write] at hi
  subst hi
  rcases writeConfig_spec r d s with ⟨hopen, e⟩ | ⟨-, e⟩ <;> rw [e]
  · exact raisesOnly_raise (.locked r d hopen) s
  · exact .of_eq rfl

/-! ## What an action makes of EVENTS (60_exceptions.md R277) -/

/-- EVENTS is reset, loses the bits the host wrote 1 to, or gains events of the table. -/
inductive EventsChange (s : State) (a : Action) (t : State) : Prop where
  | reset : a = .access .cmdSoftReset ∨ a = .resetLine → t.events = 0 → EventsChange s a t
  | clear (d : Word) : a = .access (.wrEvents d) → t.events = (clearEvents d s).events → EventsChange s a t
  | raise : RaisesOnly (Causes s a) s t → EventsChange s a t

theorem exec_eventsChange (i : Instr) (s : State) : ∃ t, exec i s = .next t ∧ EventsChange s (.access i) t := by
  cases i
  all_goals refine ⟨_, rfl, ?_⟩
  case cmdSoftReset => exact .reset (.inl rfl) rfl
  case wrEvents d => exact .clear d rfl rfl
  case cmdStart => exact .raise ((raisesOnly_startMessage s).respond _ _)
  case cmdEnd => exact .raise ((raisesOnly_endMessage s).respond _ _)
  case cmdReserved d => exact .raise ((raisesOnly_raise (.reserved d) s).respond _ _)
  case wrSampleHi d => exact .raise ((raisesOnly_offerSample d _ s).respond _ _)
  all_goals first
    | exact .raise (.of_eq rfl)
    | exact .raise (.respond (raisesOnly_writeConfig (by rfl) s) _ _)

theorem Performs.eventsChange {s t : State} {a : Action} (h : Performs s a t) : EventsChange s a t := by
  cases h with
  | engine e he => exact .raise (raisesOnly_engineStep he)
  | access i _ hexec =>
    obtain ⟨u, hu, hchange⟩ := exec_eventsChange i s
    cases hu.symm.trans hexec
    exact hchange
  | resetLine => exact .reset (.inr rfl) rfl
  | nothing => exact .raise (.of_eq rfl)

/-- Settles O54: only the reset and the write of EVENTS lose a bit, and the write loses bits of its DATA alone. -/
theorem eventsAreSticky : Obligations.EventsAreSticky := by
  intro s t i h hset hlost
  obtain ⟨s', t', hs, hp, ht⟩ := step_performs h
  rw [← hs.events] at hset
  rw [ht.events] at hlost
  cases hp.eventsChange with
  | reset ha _ => exact .inr ha
  | clear d ha hclear =>
    rw [hclear, getLsbD_clearEvents, hset, Bool.true_and, Bool.not_eq_false', Bool.and_eq_true] at hlost
    exact .inl ⟨d, ha, hlost.2⟩
  | raise hraise => exact absurd (hlost.symm.trans (hraise.kept i hset)) Bool.false_ne_true

/-- A bit that an action newly sets is that of an event the table lists for it. -/
theorem EventsChange.cause {s t : State} {a : Action} {i : Nat} (h : EventsChange s a t)
    (hclear : s.events.getLsbD i = false) (hset : t.events.getLsbD i = true) : ∃ e, Causes s a e ∧ i = eventCode e := by
  cases h with
  | reset _ hzero => simp [hzero] at hset
  | clear d _ hd =>
    rw [hd, getLsbD_clearEvents, hclear, Bool.false_and] at hset
    cases hset
  | raise hraise =>
    obtain hold | hnew := hraise.new i hset
    · exact absurd (hclear.symm.trans hold) Bool.false_ne_true
    · exact hnew

/-- Settles O55: a new bit has its cause in the table, and each row of the table is one of the cases. -/
theorem eventsComeOnlyFromTheirCauses : Obligations.EventsComeOnlyFromTheirCauses := by
  intro s t i h hclear hset
  obtain ⟨s', t', hs, hp, ht⟩ := step_performs h
  rw [← hs.events] at hclear
  rw [ht.events] at hset
  obtain ⟨e, hcause, rfl⟩ := hp.eventsChange.cause hclear hset
  rw [← isOpen_congr hs.state]
  generalize action s = a at hcause ⊢
  cases hcause with
  | locked r d hopen => exact .inr (.inr (.inr (.inr (.inr (.inr ⟨rfl, hopen, r, d, rfl⟩)))))
  | _ => simp [eventCode]

end Sys2Proof.Machine

/-! # Proofs: the reset, the hold, and what a message keeps (70_reset_and_hazards.md)

`MessageChange` says once what an action makes of the message state. The hold (R315), the growth of the bit stream
(R317) and the finality of the results (R313) are read off it; that a push and END commute with CONSUME (R321) rests
on an `Arrival`, which CONSUME neither reads nor writes. -/

namespace Sys2Proof.Machine

/-! ## Reset (70_reset_and_hazards.md R300) -/

theorem resetBlock_eq_resetOf (s : State) : resetBlock s = Claims.resetOf s := rfl

theorem step_resetLine {s : State} {rest : List Input} (h : nextAgent s = .host)
    (hi : s.inbox = .resetLine :: rest) : step s = .next (resetBlock { s.takeTurn with inbox := rest }) := by
  rw [step_hostTurn h, hostStep, takeTurn_inbox, hi]

theorem irq_resetBlock (s : State) : irq (resetBlock s) = false := by
  rw [irq, resetBlock_events, resetBlock_intEn]
  decide

/-- After a reset no FIFO and no buffer is full, since no depth is 0 (10_state.md R34). -/
theorem statusWord_resetBlock {s : State} (h : ParamsLegal s.params) : statusWord (resetBlock s) = 0 := by
  obtain ⟨-, ⟨hbits, -⟩, ⟨hsfifo, -⟩, -⟩ := h
  have hbitbuf : (0 == s.params.bitbufDepth) = false := beq_false_of_ne (Nat.ne_of_lt hbits)
  have hfifo : (0 == s.params.sfifoDepth) = false := beq_false_of_ne (Nat.ne_of_lt hsfifo)
  simp only [statusWord, resetBlock_msg, resetBlock_params, resetBlock_state, Message.clear, List.length_nil,
    irq_resetBlock, hbitbuf, hfifo, gt_iff_lt, Nat.lt_irrefl, decide_false]
  decide

theorem highWord_zero : highWord 0 = 0 := by decide

theorem readsAs_of_readReg {i : Instr} {r : Reg} {s : State} {v : Word} (hexec : exec i s = readReg r s)
    (hv : regValue r s = v) : Claims.ReadsAs i s v := by
  rw [Claims.ReadsAs, hexec, readReg, hv]

/-- Settles O15: by both ways of reset, and then register by register. -/
theorem resetGivesEveryRegisterItsResetValue : Obligations.ResetGivesEveryRegisterItsResetValue := by
  refine ⟨fun s => ⟨rfl, fun rest => step_resetLine, irq_resetBlock s, fun hparams => ?status, ?registers⟩, rfl⟩
  case status =>
    rw [← resetBlock_eq_resetOf]
    exact readsAs_of_readReg (r := .status) rfl (statusWord_resetBlock hparams)
  case registers =>
    and_intros
    all_goals first
      | rfl
      | exact readsAs_of_readReg rfl highWord_zero

/-- Settles O52: the message state is clear, and no message is open. -/
theorem resetMeetsTheInvariant : Obligations.ResetMeetsTheInvariant :=
  inv_of_clear (by decide) (by decide) (fun hopen => by simp [State.reset] at hopen) rfl

/-! ## The read of OUT_DATA (40_host_ops.md R142) -/

theorem exec_rdOutData (s : State) :
    exec .rdOutData s = .next ((popOutput s).respond .ok (s.msg.ofifo.headD 0)) := rfl

theorem popOutput_of_empty {s : State} (h : s.msg.ofifo = []) : popOutput s = s := by
  rw [popOutput, h, List.tail_nil, ← h]

/-- Settles O6: an empty OFIFO is its own tail, with 0 for its head. -/
theorem outDataReadPops : Obligations.OutDataReadPops := by
  refine fun s => ⟨fun hempty => ?_, fun e rest hhead => ?_⟩
  · rw [Claims.ReadsAs, exec_rdOutData, popOutput_of_empty hempty, hempty, List.headD_nil]
  · rw [exec_rdOutData, popOutput, hhead, List.headD_cons, List.tail_cons]

/-! ## What an action makes of the message state -/

/-- ABORT, SOFT_RESET and the reset input discard the message. -/
def Discarding (a : Action) : Prop := a = .access .cmdAbort ∨ a = .access .cmdSoftReset ∨ a = .resetLine

theorem discards_iff (s : State) : Claims.Discards s ↔ Discarding (action s) := Iff.rfl

/-- The changes of the message state, by the action performed. -/
inductive MessageChange (s : State) (a : Action) (t : State) : Prop where
  | same : t.state = s.state → t.msg = s.msg → MessageChange s a t
  | pop : a = .access .rdOutData → t.msg = { s.msg with ofifo := s.msg.ofifo.tail } → MessageChange s a t
  | push (x : F64) : s.state = .run →
      t.msg = { s.msg with sfifo := s.msg.sfifo ++ [x], sampleCount := s.msg.sampleCount + 1 } → MessageChange s a t
  | finish : a = .access .cmdEnd → s.state = .run → t.msg = { s.msg with fphase := .drain } → MessageChange s a t
  | start : a = .access .cmdStart → s.isOpen = false → MessageChange s a t
  | discard : Discarding a → MessageChange s a t
  | engine (e : EngineStep) : a = .engine e → enabledStep s = some e → t = engineStep s → MessageChange s a t

theorem writeConfig_msg (r : CfgReg) (d : Word) (s : State) : (writeConfig r d s).msg = s.msg := by
  rcases writeConfig_spec r d s with ⟨-, e⟩ | ⟨-, e⟩
  · rw [e, raise_msg]
  · rw [e]

theorem exec_messageChange (i : Instr) (s : State) : ∃ t, exec i s = .next t ∧ MessageChange s (.access i) t := by
  cases i
  all_goals refine ⟨_, rfl, ?_⟩
  case rdOutData => exact .pop rfl rfl
  case cmdStart =>
    rcases startMessage_spec s with ⟨-, e⟩ | ⟨hclosed, -⟩ | ⟨hclosed, -⟩
    · exact .same (by rw [e]; rfl) (by rw [e]; rfl)
    · exact .start rfl hclosed
    · exact .start rfl hclosed
  case cmdEnd =>
    rcases endMessage_spec s with ⟨hrun, e⟩ | ⟨-, e⟩ <;> rw [e]
    · exact .finish rfl hrun rfl
    · exact .same rfl rfl
  case cmdAbort => exact .discard (.inl rfl)
  case cmdSoftReset => exact .discard (.inr (.inl rfl))
  case wrSampleHi =>
    rcases offerSample_spec (pushedSample _ s.loLatch) s with ⟨-, e⟩ | ⟨-, -, e⟩ | ⟨hrun, -, _, -, e⟩ <;> rw [e]
    · exact .same rfl rfl
    · exact .same rfl rfl
    · exact .push _ hrun rfl
  all_goals first
    | exact .same rfl rfl
    | exact .same (writeConfig_state _ _ s) (writeConfig_msg _ _ s)

theorem Performs.messageChange {s t : State} {a : Action} (h : Performs s a t) : MessageChange s a t := by
  cases h with
  | engine e he => exact .engine e rfl he rfl
  | access i _ hexec =>
    obtain ⟨u, hu, hchange⟩ := exec_messageChange i s
    cases hu.symm.trans hexec
    exact hchange
  | resetLine => exact .discard (.inr (.inr rfl))
  | nothing => exact .same rfl rfl

/-! ## The hold of the engine (70_reset_and_hazards.md R315) -/

theorem SameBlock.held {s t : State} (h : SameBlock s t) (hheld : Claims.Held s) : Claims.Held t := by
  rwa [Claims.Held, h.state, h.msg, h.params]

theorem enabledStep_of_held {s : State} (h : Claims.Held s) : enabledStep s = none := by
  obtain ⟨hfin, hp, hs, hseq, hfull⟩ := h
  simp [enabledStep, hfin, hp, hs, hseq, hfull]

/-- Nothing but a read of OUT_DATA or the discarding of the message changes the message state while it is held. -/
theorem Performs.held {s t : State} {a : Action} (h : Performs s a t) (hheld : Claims.Held s) :
    Claims.Held t ∨ Discarding a ∨ a = .access .rdOutData := by
  obtain ⟨hparams, -⟩ := h.hostRegFrame
  have hfin : s.state = .finish := hheld.1
  have hopen : s.isOpen = true := (isOpen_iff s).mpr (.inr hfin)
  cases h.messageChange with
  | same hstate hmsg => exact .inl (by rwa [Claims.Held, hstate, hmsg, hparams])
  | pop ha => exact .inr (.inr ha)
  | push _ hrun | finish _ hrun => rw [hfin] at hrun; cases hrun
  | start _ hclosed => rw [hopen] at hclosed; cases hclosed
  | discard ha => exact .inr (.inl ha)
  | engine e _ he => rw [enabledStep_of_held hheld] at he; cases he

theorem enabledStep_rdOutData_of_held {s t : State} (h : Claims.Held s) (hdepth : 1 ≤ s.params.ofifoDepth)
    (ht : exec .rdOutData s = .next t) : enabledStep t = some .deliver := by
  obtain ⟨hfin, hp, hs, hseq, hfull⟩ := h
  cases (exec_rdOutData s).symm.trans ht
  refine (enabledStep_iff _ .deliver).mpr ⟨hfin, hs, hp, hseq, ?_⟩
  simp only [respond_msg, popOutput_msg, respond_params, popOutput_params, List.length_tail]
  omega

/-- Settles O32: no engine step is enabled in the hold, and what a step does to the hold is what its action does. -/
theorem outputHoldIsLiftedOnlyByTheHost : Obligations.OutputHoldIsLiftedOnlyByTheHost := by
  refine fun s hheld => ⟨engineStep_idle (enabledStep_of_held hheld), fun t h => ?_,
    fun t => enabledStep_rdOutData_of_held hheld⟩
  obtain ⟨s', t', hs, hp, ht⟩ := step_performs h
  rw [discards_iff]
  exact (hp.held (hs.held hheld)).imp_left ht.held

/-! ## The bit stream (70_reset_and_hazards.md R317) -/

/-- At most one symbol is added to the stream, at its end. -/
def StreamGrows (m n : Message) : Prop := ∃ new : Option Symbol, n.bitbuf = m.bitbuf ++ new.toList

theorem StreamGrows.of_eq {m n : Message} (h : n.bitbuf = m.bitbuf) : StreamGrows m n :=
  ⟨none, by rw [h, Option.toList_none, List.append_nil]⟩

theorem streamGrows_storeSymbol (bit unk : Bool) (s : State) : StreamGrows s.msg (storeSymbol bit unk s).msg := by
  rcases storeSymbol_spec bit unk s with ⟨-, e⟩ | ⟨-, e⟩ <;> rw [e]
  · exact ⟨some ⟨bit, unk⟩, rfl⟩
  · exact .of_eq rfl

/-- A demodulated window is dropped, or its symbol stored (42_symbol_slicer.md R194). -/
theorem streamGrows_windowComplete (w : List F64) (s : State) : StreamGrows s.msg (windowComplete w s).msg := by
  unfold windowComplete appendSymbol
  dsimp only
  split
  · exact .of_eq rfl
  · exact streamGrows_storeSymbol _ _ { s with msg := { s.msg with lastPm := _, lastPs := _, unkCount := _ } }
  · exact streamGrows_storeSymbol _ _ { s with msg := { s.msg with lastPm := _, lastPs := _ } }

theorem streamGrows_consumeStep (s : State) : StreamGrows s.msg (consumeStep s).msg := by
  unfold consumeStep
  split
  · exact .of_eq rfl
  · unfold closeWindow
    split
    · exact streamGrows_windowComplete _ { s with msg := { s.msg with sfifo := _, peak := _, winbuf := _ } }
    · exact .of_eq rfl

theorem streamGrows_drainStep (s : State) : StreamGrows s.msg (drainStep s).msg := by
  unfold drainStep
  dsimp only
  split
  · exact streamGrows_windowComplete _ { s with msg := { s.msg with winbuf := _, fphase := _ } }
  · exact .of_eq rfl

theorem deliverStep_bitbuf (s : State) : (deliverStep s).msg.bitbuf = s.msg.bitbuf := by
  unfold deliverStep
  split <;> rfl

/-- CONSUME and DRAIN alone demodulate a window. -/
theorem streamGrows_engineStep (s : State) : StreamGrows s.msg (engineStep s).msg := by
  rcases engineStep_cases s with ⟨-, e⟩ | ⟨-, e⟩ | ⟨-, e⟩ | ⟨-, e⟩ | ⟨-, e⟩ | ⟨-, e⟩ <;> rw [e]
  · exact streamGrows_consumeStep s
  · exact streamGrows_drainStep s
  · exact .of_eq (phase2_effect s).2.bitbuf
  · exact .of_eq (deliverStep_bitbuf s)
  · exact .of_eq rfl
  · exact .of_eq rfl

theorem MessageChange.streamGrows {s t : State} {a : Action} (h : MessageChange s a t) (ho : s.isOpen = true)
    (hkept : ¬ Discarding a) : StreamGrows s.msg t.msg := by
  cases h with
  | same _ hmsg | pop _ hmsg | push _ _ hmsg | finish _ _ hmsg => exact .of_eq (by rw [hmsg])
  | start _ hclosed => rw [ho] at hclosed; cases hclosed
  | discard ha => exact absurd ha hkept
  | engine e _ _ ht => rw [ht]; exact streamGrows_engineStep s

/-- Settles O58: each action of an open message that does not discard it adds at most one symbol. -/
theorem bitStreamOnlyGrows : Obligations.BitStreamOnlyGrows := by
  intro s t h hopen hkept
  rw [discards_iff] at hkept
  obtain ⟨s', t', hs, hp, ht⟩ := step_performs h
  have ho : s'.isOpen = true := by rwa [isOpen_congr hs.state, isOpen_iff]
  obtain ⟨new, hnew⟩ := hp.messageChange.streamGrows ho hkept
  rw [hs.msg] at hnew
  rw [ht.msg, hnew]
  exact ⟨List.prefix_append _ _, by cases new <;> simp⟩

/-! ## The results of phase 2 (70_reset_and_hazards.md R313) -/

/-- CONSUME touches no result, and does not count the sample again. -/
theorem consumeStep_results_sampleCount (s : State) :
    (consumeStep s).msg.results = s.msg.results ∧ (consumeStep s).msg.sampleCount = s.msg.sampleCount := by
  unfold consumeStep
  split
  · exact ⟨rfl, rfl⟩
  · unfold closeWindow
    split
    · exact ⟨(windowComplete_effect _ _).keeps.results, (windowComplete_effect _ _).keeps.sampleCount⟩
    · exact ⟨rfl, rfl⟩

theorem drainStep_results (s : State) : (drainStep s).msg.results = s.msg.results := by
  unfold drainStep
  dsimp only
  split
  · exact (windowComplete_effect _ _).keeps.results
  · rfl

theorem deliverStep_results (s : State) : (deliverStep s).msg.results = s.msg.results := by
  unfold deliverStep
  split <;> rfl

theorem engineStep_results {s : State} {e : EngineStep} (he : enabledStep s = some e) (hne : e ≠ .compute) :
    (engineStep s).msg.results = s.msg.results := by
  rw [engineStep, he]
  cases e with
  | consume => exact (consumeStep_results_sampleCount s).1
  | drain => exact drainStep_results s
  | compute => exact absurd rfl hne
  | deliver => exact deliverStep_results s
  | complete => rfl

/-- In DELIVER no step that could move the sub-phase back is enabled (10_state.md R66). -/
theorem engineStep_fphase_of_deliver {s : State} (hp : s.msg.fphase = .deliver) :
    (engineStep s).msg.fphase = .deliver := by
  rcases engineStep_cases s with ⟨he, e⟩ | ⟨he, e⟩ | ⟨-, e⟩ | ⟨he, e⟩ | ⟨-, e⟩ | ⟨-, e⟩ <;> rw [e]
  · obtain ⟨-, hs⟩ := (enabledStep_iff s .consume).mp he
    obtain ⟨x, rest, hs⟩ := List.exists_cons_of_ne_nil hs
    exact (keepsQueues_consumeStep hs).fphase.trans hp
  · obtain ⟨-, -, hdrain⟩ := (enabledStep_iff s .drain).mp he
    rw [hp] at hdrain
    cases hdrain
  · rfl
  · obtain ⟨-, -, -, hseq, -⟩ := (enabledStep_iff s .deliver).mp he
    obtain ⟨x, rest, hseq⟩ := List.exists_cons_of_ne_nil hseq
    exact (keepsQueues_deliverStep hseq).fphase.trans hp
  · exact hp
  · exact hp

section Results

variable {s t : State} {a : Action}

theorem MessageChange.results (h : MessageChange s a t) (hstart : a ≠ .access .cmdStart) (hkept : ¬ Discarding a)
    (hcompute : a ≠ .engine .compute) : t.msg.results = s.msg.results := by
  cases h with
  | same _ hmsg | pop _ hmsg | push _ _ hmsg | finish _ _ hmsg => simp only [hmsg, Message.results]
  | start ha => exact absurd ha hstart
  | discard ha => exact absurd ha hkept
  | engine e ha he ht =>
    rw [ht]
    exact engineStep_results he fun hec => hcompute (by rw [ha, hec])

theorem MessageChange.fphase (h : MessageChange s a t) (hstart : a ≠ .access .cmdStart) (hkept : ¬ Discarding a)
    (hend : a ≠ .access .cmdEnd) (hp : s.msg.fphase = .deliver) : t.msg.fphase = .deliver := by
  cases h with
  | same _ hmsg | pop _ hmsg | push _ _ hmsg => rw [hmsg]; exact hp
  | finish ha => exact absurd ha hend
  | start ha => exact absurd ha hstart
  | discard ha => exact absurd ha hkept
  | engine e _ _ ht => rw [ht]; exact engineStep_fphase_of_deliver hp

theorem Performs.fphase_of_compute (h : Performs s (.engine .compute) t) : t.msg.fphase = .deliver := by
  cases h with
  | engine _ he => rw [engineStep, he]; rfl

end Results

/-- Settles O59: the results and the sub-phase through each action. -/
theorem resultsAreFinalAfterCompute : Obligations.ResultsAreFinalAfterCompute := by
  intro s t h hstart hkept
  rw [discards_iff] at hkept
  obtain ⟨s', t', hs, hp, ht⟩ := step_performs h
  have hchange := hp.messageChange
  rw [ht.msg, ← hs.msg]
  refine ⟨hchange.results hstart hkept, fun hcompute => ?_, fun hdeliver hend =>
    hchange.fphase hstart hkept hend hdeliver⟩
  rw [hcompute] at hp
  exact hp.fphase_of_compute

/-! ## A push or END before or after a CONSUME (70_reset_and_hazards.md R321) -/

/-- What a push or END adds to the state: nothing that CONSUME reads but samples behind the one it takes, and
nothing that CONSUME writes but events. -/
structure Arrival where
  state : EngineState
  raised : Word
  samples : List F64
  sampleCount : Word
  fphase : FPhase
  response : BusResp

def State.arrive (s : State) (a : Arrival) : State :=
  { s with
    state := a.state
    events := s.events ||| a.raised
    responses := a.response :: s.responses
    msg := { s.msg with sfifo := s.msg.sfifo ++ a.samples, sampleCount := a.sampleCount, fphase := a.fphase } }

theorem arrive_raise (s : State) (a : Arrival) (e : Event) : (s.arrive a).raise e = (s.raise e).arrive a := by
  simp only [State.arrive, State.raise, BitVec.or_assoc, BitVec.or_comm a.raised]

theorem storeSymbol_arrive (bit unk : Bool) (s : State) (a : Arrival) :
    storeSymbol bit unk (s.arrive a) = (storeSymbol bit unk s).arrive a := by
  by_cases hroom : s.msg.bitbuf.length < s.params.bitbufDepth
  · rw [storeSymbol, storeSymbol, if_pos hroom]
    exact if_pos hroom
  · rw [storeSymbol, storeSymbol, if_neg hroom]
    refine Eq.trans (if_neg hroom) ?_
    exact arrive_raise { s with msg := { s.msg with bitlostCount := s.msg.bitlostCount + 1 } } a .bitbufOvf

theorem appendSymbol_arrive (bit g : Bool) (s : State) (a : Arrival) :
    appendSymbol bit g (s.arrive a) = (appendSymbol bit g s).arrive a := by
  have hcfg : (s.arrive a).cfg = s.cfg := rfl
  unfold appendSymbol
  rw [hcfg]
  split
  · rfl
  · exact storeSymbol_arrive bit true { s with msg := { s.msg with unkCount := s.msg.unkCount + 1 } } a
  · exact storeSymbol_arrive bit _ s a

theorem windowComplete_arrive (w : List F64) (s : State) (a : Arrival) :
    windowComplete w (s.arrive a) = (windowComplete w s).arrive a := by
  unfold windowComplete
  refine Eq.trans ?_ (appendSymbol_arrive _ _ _ a)
  rfl

theorem closeWindow_arrive (s : State) (a : Arrival) : closeWindow (s.arrive a) = (closeWindow s).arrive a := by
  by_cases hfull : s.msg.winbuf.length = s.cfg.windowLen
  · rw [closeWindow, closeWindow, if_pos hfull]
    refine Eq.trans (if_pos hfull) ?_
    exact windowComplete_arrive _ { s with msg := { s.msg with winbuf := [] } } a
  · rw [closeWindow, closeWindow, if_neg hfull]
    exact if_neg hfull

/-- CONSUME takes the oldest sample, so what arrives behind it may arrive before or after. -/
theorem consumeStep_arrive {s : State} (hs : s.msg.sfifo ≠ []) (a : Arrival) :
    consumeStep (s.arrive a) = (consumeStep s).arrive a := by
  obtain ⟨x, rest, hs⟩ := List.exists_cons_of_ne_nil hs
  have hs' : (s.arrive a).msg.sfifo = x :: (rest ++ a.samples) := by rw [State.arrive, hs, List.cons_append]
  rw [consumeStep_cons hs, consumeStep_cons hs', ← closeWindow_arrive]
  rfl

theorem engineStep_arrive {s : State} (ho : s.isOpen = true) (hs : s.msg.sfifo ≠ []) {a : Arrival}
    (ha : a.state = .run ∨ a.state = .finish) : engineStep (s.arrive a) = (engineStep s).arrive a := by
  have hs' : (s.arrive a).msg.sfifo ≠ [] := List.append_ne_nil_of_left_ne_nil hs a.samples
  rw [engineStep_consume ho hs, engineStep_consume ((isOpen_iff _).mpr ha) hs', consumeStep_arrive hs]

/-- The arrival of an accepted sample (40_host_ops.md R140). -/
def pushArrival (d : Word) (s : State) : Arrival where
  state := .run
  raised := if (pushedSample d s.loLatch).extractLsb' 52 11 = 0x7FF then eventBit .nonfinite else 0#32
  samples := [pushedSample d s.loLatch]
  sampleCount := s.msg.sampleCount + 1
  fphase := s.msg.fphase
  response := ⟨.ok, 0⟩

/-- The arrival of END in RUN (40_host_ops.md R133). -/
def endArrival (s : State) : Arrival where
  state := .finish
  raised := 0#32
  samples := []
  sampleCount := s.msg.sampleCount
  fphase := .drain
  response := ⟨.ok, 0⟩

theorem exec_wrSampleHi_of_room {s : State} (d : Word) (hrun : s.state = .run)
    (hroom : s.msg.sfifo.length < s.params.sfifoDepth) :
    exec (.wrSampleHi d) s = .next (s.arrive (pushArrival d s)) := by
  have hexec : exec (.wrSampleHi d) s = acknowledge (offerSample (pushedSample d s.loLatch) s) := rfl
  rw [hexec, offerSample_of_room hrun (Nat.ne_of_lt hroom), acknowledge, State.arrive, pushArrival, ← hrun]
  dsimp only [State.respond]
  split
  · rfl
  · rw [BitVec.or_zero]

theorem exec_cmdEnd_of_run {s : State} (hrun : s.state = .run) :
    exec .cmdEnd s = .next (s.arrive (endArrival s)) := by
  have hexec : exec .cmdEnd s = acknowledge (endMessage s) := rfl
  rw [hexec, endMessage_of_run hrun]
  simp only [State.arrive, endArrival, BitVec.or_zero, List.append_nil]
  rfl

/-- CONSUME leaves what the two accesses look at, and makes room in SFIFO. -/
structure ConsumeKeeps (s t : State) : Prop where
  params : t.params = s.params
  state : t.state = s.state
  loLatch : t.loLatch = s.loLatch
  sampleCount : t.msg.sampleCount = s.msg.sampleCount
  fphase : t.msg.fphase = s.msg.fphase
  room : t.msg.sfifo.length ≤ s.msg.sfifo.length

theorem consumeKeeps_consumeStep {s : State} (hs : s.msg.sfifo ≠ []) : ConsumeKeeps s (consumeStep s) := by
  obtain ⟨x, rest, hs⟩ := List.exists_cons_of_ne_nil hs
  have honly := consumeStep_onlyMessage s
  have hqueues := keepsQueues_consumeStep hs
  refine ⟨honly.params, honly.state, honly.loLatch, (consumeStep_results_sampleCount s).2, hqueues.fphase, ?_⟩
  rw [hqueues.sfifo, hs]
  exact Nat.le_succ _

/-- Settles O34: both accesses are arrivals, the same ones after a CONSUME as before it. -/
theorem pushAndEndCommuteWithConsume : Obligations.PushAndEndCommuteWithConsume := by
  intro s hrun hs
  have ho : s.isOpen = true := (isOpen_iff s).mpr (.inl hrun)
  obtain ⟨hparams, hstate, hloLatch, hcount, hphase, hless⟩ := consumeKeeps_consumeStep hs
  rw [← engineStep_consume ho hs] at hparams hstate hloLatch hcount hphase hless
  refine ⟨fun d hroom => ⟨_, exec_wrSampleHi_of_room d hrun hroom, ?_⟩, _, exec_cmdEnd_of_run hrun, ?_⟩
  · have hsame : pushArrival d (engineStep s) = pushArrival d s := by
      rw [pushArrival, hloLatch, hcount, hphase, pushArrival]
    rw [exec_wrSampleHi_of_room d (hstate.trans hrun) (hparams ▸ hless.trans_lt hroom), hsame,
      engineStep_arrive ho hs (.inl rfl)]
  · have hsame : endArrival (engineStep s) = endArrival s := by rw [endArrival, hcount, endArrival]
    rw [exec_cmdEnd_of_run (hstate.trans hrun), hsame, engineStep_arrive ho hs (.inr rfl)]

end Sys2Proof.Machine
